-- ==== Sys2Proof/Word.lean ====
section
/-! DEFINITION. The words and the records that cross the part's boundary: bytes, cipher blocks,
wire bytes of a data burst, the key block of KEY LOAD, and what the retained store holds.
The meanings of these records stand in `Sys2Proof/Machine/`. -/

namespace Sys2Proof

/-- A byte, most significant bit 7 (section 0.5). -/
abbrev Byte := BitVec 8

/-- Half a byte; the digit fields hold two to a byte (R183). -/
abbrev Nibble := BitVec 4

/-- A cipher block of 16 bytes, byte 0 the most significant (R116). -/
abbrev Block := BitVec 128

/-- An 8-byte key identifier, byte 0 the most significant (R129). -/
abbrev KeyId := BitVec 64

/-- A 32-bit tick value (R152). -/
abbrev Tick := BitVec 32

/-- One byte as it stands on one byte lane in one beat, with the lane's mask-or-inversion line
(section 2.1). -/
structure WireByte where
  /-- the lane's eight data lines -/
  data : Byte
  /-- the lane's mask-or-inversion line, `true` when asserted -/
  asserted : Bool
  deriving DecidableEq, Repr

/-- One beat: the bytes of lanes 0 to 7 in that order; lane `i` carries byte `i` of the beat
(log entry 7). -/
abbrev Beat := List WireByte

/-- The data of one write burst: its beats in burst order and, where write check codes travel, the
code of each lane (R24). -/
structure WireBurst where
  beats : List Beat
  codes : Option (List Byte)
  deriving DecidableEq, Repr

/-- The key block of KEY LOAD, Table 13-5. -/
structure KeyBlock where
  keyId : KeyId
  start : BitVec 32
  limit : BitVec 32
  /-- bytes 16 to 31, enciphered under the transport key (R118) -/
  enciphered : Block
  check : BitVec 24
  /-- byte 35, not read (R184) -/
  unread : Byte
  deriving DecidableEq, Repr

/-- The state of a key position (R130). -/
inductive KeyState where
  | empty
  | ready
  | active
  | spent
  deriving DecidableEq, Repr

/-- The retained fields of a key position, Table 8-1; the pool is not retained (R129). -/
structure KeyPosition where
  state : KeyState
  keyId : KeyId
  /-- present in READY and ACTIVE -/
  baseKey : Option Block
  /-- present with the base key -/
  check : Option (BitVec 24)
  /-- the first counter of the current load, `s` in the manual -/
  start : Nat
  /-- the last counter of the current load, `L` in the manual -/
  limit : Nat
  /-- the next counter a derivation reserves, `N` in the manual -/
  next : Nat
  generation : BitVec 32
  deriving DecidableEq, Repr

/-- What the retained store holds through part reset (R146), with its marker (R160). -/
structure RetainedStore where
  /-- the fixed pattern is found in the store -/
  marker : Bool
  /-- the tamper latch -/
  latch : Bool
  /-- the wrap sequence of each window (R56) -/
  wrapSeq : Vector (BitVec 32) 8
  positions : Vector KeyPosition 16
  deriving DecidableEq, Repr

/-- What has become of the retained store when a part reset is taken: its contents are kept, or it
is found to hold other contents, its marker among them (R160: "any loss of the store's contents";
R147: a stored key that no longer answers its check value). -/
inductive StoreFate where
  | kept
  | holds (contents : RetainedStore)
  deriving DecidableEq, Repr

end Sys2Proof
end

