-- ==== Sys2Proof/Syntax.lean ====
section
/-! DEFINITION. The commands and events the part takes: one constructor for each row of the table of
operations and events. Commands of the channel carry the fields of Table 1-1 and whether they pass
the parity check (R1, R16). -/

namespace Sys2Proof

/-- One step of the part. -/
inductive Instr where
  /-- ROW OPEN (R4) -/
  | rowOpen (group bank : BitVec 2) (row : BitVec 16) (parityOk : Bool)
  /-- BANK CLOSE (R5) -/
  | bankClose (group bank : BitVec 2) (parityOk : Bool)
  /-- CLOSE ALL (R5) -/
  | closeAll (parityOk : Bool)
  /-- WRITE (R6) -/
  | write (group bank : BitVec 2) (column : BitVec 10) (autoClose chop parityOk : Bool)
  /-- READ (R6) -/
  | read (group bank : BitVec 2) (column : BitVec 10) (autoClose chop parityOk : Bool)
  /-- REFRESH (R7) -/
  | refresh (parityOk : Bool)
  /-- SELF-REFRESH ENTRY (R7) -/
  | selfRefreshEntry (parityOk : Bool)
  /-- SELF-REFRESH EXIT (R7) -/
  | selfRefreshExit (parityOk : Bool)
  /-- POWER-DOWN ENTRY (R7) -/
  | powerDownEntry (parityOk : Bool)
  /-- POWER-DOWN EXIT (R7) -/
  | powerDownExit (parityOk : Bool)
  /-- MODE SET (R9); `address` is the command's address lines 17 to 0 (log entry 8) -/
  | modeSet (group bank : BitVec 2) (address : BitVec 18) (parityOk : Bool)
  /-- CALIBRATE (R1) -/
  | calibrate (parityOk : Bool)
  /-- NO OPERATION (R1) -/
  | noOperation (parityOk : Bool)
  /-- DESELECT (R1) -/
  | deselect (parityOk : Bool)
  /-- the data of a write burst arrives (R22) -/
  | writeDataBurst (burst : WireBurst)
  /-- the data of a read burst arrives from the DRAM, inversion lines included (R36) -/
  | readDataBurst (beats : List Beat)
  /-- an assertion of the DRAM-side alert input begins (R42) -/
  | dramAlertAssertion
  /-- the DRAM-side alert input is deasserted (R17) -/
  | dramAlertDeassertion
  /-- eight channel clocks have passed since a check failure (R40) -/
  | checkFailurePulseEnd
  /-- the memory controller's reset line becomes asserted (R20) -/
  | channelReset
  /-- the memory controller's reset line is deasserted (R20) -/
  | channelResetRelease
  /-- a tick of the time base (R151) -/
  | tick
  /-- the expiry of the context of one window and slot (R78) -/
  | contextExpiry (window : Fin 8) (slot : Nat)
  /-- the part reset input is asserted (R158); `store` says what the retained store holds after it -/
  | partReset (store : StoreFate)
  /-- the part reset input is released (R158) -/
  | partResetRelease
  /-- the transfer of the image ends (R167): `none` when the request is not acknowledged, else the
  bytes the configuration memory drove, offset 0 first -/
  | imageTransferComplete (image : Option (List Byte))
  /-- the known-answer test completes (R159); `passed` when no output mismatched -/
  | knownAnswerTestComplete (passed : Bool)
  /-- the check-value recomputation in flight completes (R147) -/
  | checkValueRecomputationComplete
  /-- the refill in flight completes (R143) -/
  | refillCompletion
  /-- the key-load unwrap in flight completes (R136) -/
  | keyLoadUnwrapCompletion
  /-- the tamper line changes to active (R162) -/
  | tamper
  /-- the tamper line changes to inactive (R162) -/
  | tamperLineInactive
  /-- the STATUS frame ends (R179) -/
  | status
  /-- the WINDOW STATUS frame ends (R54) -/
  | windowStatus (window : Byte)
  /-- the KEY STATUS frame ends (R150) -/
  | keyStatus (position : Byte)
  /-- the KEY LOAD frame ends (R180) -/
  | keyLoad (position : Byte) (block : KeyBlock)
  /-- the KEY ERASE frame ends (R137) -/
  | keyErase (position : Byte)
  /-- the KEY SWITCH frame ends (R138) -/
  | keySwitch (window : Byte)
  /-- the FREEZE frame ends (R49) -/
  | freeze (window : Byte)
  /-- the THAW frame ends (R49) -/
  | thaw (window : Byte)
  /-- the NOTICE ACK frame ends (R165); `causes` is coded as in Table 13-8 -/
  | noticeAck (causes : Byte)
  /-- the ALERT CLEAR frame ends (R41) -/
  | alertClear
  /-- the TAMPER CLEAR frame ends (R163) -/
  | tamperClear
  /-- a write frame that fails R175 ends; `bytes` are the frame's bytes, the command code first -/
  | badFrame (bytes : List Byte)
  /-- the 25 MHz reference clock stops (R156) -/
  | referenceClockStop
  /-- the 25 MHz reference clock resumes (R156) -/
  | referenceClockResume
  deriving DecidableEq, Repr

end Sys2Proof
end

