-- ==== Sys2Proof/Decode.lean ====
section
/-! DEFINITION. Reading a command from a word. The part has no instruction words: no row of the table of
operations gives bits (a channel command's encoding is that of the DDR4 channel, R1, and the link's
frames are read in `Machine/Frames.lean`), so no word spells a command. -/

namespace Sys2Proof

/-- The command that a word spells by the table's bits: none, for no row has any. -/
def decodeTableWord (_nbits _w : Nat) : Option Instr := none

end Sys2Proof
end

