-- ==== Sys2Proof/Machine/Bits.lean ====
section
/-! DEFINITION. Byte order, saturating counts and cyclic redundancy codes, shared by every block. -/

namespace Sys2Proof.Machine

/-- The `n` bytes of a number, most significant first (R183). -/
def bytesBE (n v : Nat) : List Byte :=
  (List.range n).map fun i => BitVec.ofNat 8 (v / 256 ^ (n - 1 - i))

/-- The number that bytes hold, most significant first (R183). -/
def numberBE (bytes : List Byte) : Nat :=
  bytes.foldl (fun acc b => acc * 256 + b.toNat) 0

/-- The field of `n` bytes at an offset of a record, as a number (R183). -/
def fieldBE (bytes : List Byte) (offset n : Nat) : Nat :=
  numberBE ((bytes.drop offset).take n)

/-- The byte at an offset of a record; 00h past its end. -/
def byteAt (bytes : List Byte) (offset : Nat) : Byte :=
  bytes.getD offset 0#8

/-- Sixteen bytes as a cipher block, byte 0 first (R116). -/
def blockOfBytes (bytes : List Byte) : Block :=
  BitVec.ofNat 128 (numberBE bytes)

/-- The sixteen bytes of a cipher block, byte 0 first (R116). -/
def bytesOfBlock (x : Block) : List Byte :=
  bytesBE 16 x.toNat

/-- The two nibbles of a byte, high nibble first (R183). -/
def nibblesOfByte (b : Byte) : List Nibble :=
  [b.extractLsb' 4 4, b.extractLsb' 0 4]

/-- Nibbles packed two to a byte, the first in the high nibble (R183). -/
def packNibbles : List Nibble → List Byte
  | hi :: lo :: rest => (hi ++ lo) :: packNibbles rest
  | _ => []

/-- One more on a count that saturates at its highest value (R18, R43, R52, R70). -/
def satInc {w : Nat} (x : BitVec w) : BitVec w :=
  if x = BitVec.allOnes w then x else x + 1

/-- How many of a byte's bits are 0 (R28). -/
def zeroBits (b : Byte) : Nat :=
  ((List.range 8).filter fun i => !b.getLsbD i).length

/-- One bit into a cyclic redundancy register with the given polynomial (R24, R169). -/
def crcBit {w : Nat} (poly c : BitVec w) (bit : Bool) : BitVec w :=
  if c.msb != bit then (c <<< 1) ^^^ poly else c <<< 1

/-- One byte into a cyclic redundancy register, bit 7 first (R24, R169). -/
def crcByte {w : Nat} (poly c : BitVec w) (b : Byte) : BitVec w :=
  [7, 6, 5, 4, 3, 2, 1, 0].foldl (fun acc i => crcBit poly acc (b.getLsbD i)) c

/-- The cyclic redundancy code of bytes from an initial value, no final inversion (R24, R169). -/
def crc {w : Nat} (poly init : BitVec w) (bytes : List Byte) : BitVec w :=
  bytes.foldl (crcByte poly) init

/-- The write check code of one byte lane over its driven bytes, beat 0 first (Table 2-1). -/
def laneCode (bytes : List Byte) : Byte :=
  crc 0x07#8 0x00#8 bytes

/-- The image check code (Table 11-2). -/
def imageCode (bytes : List Byte) : BitVec 16 :=
  crc 0x1021#16 0xFFFF#16 bytes

end Sys2Proof.Machine
end

