-- ==== Sys2Proof/Config.lean ====
section
/-! DEFINITION. The quantities the manual fixes for the part (Table 0-1), and the values the model
names where the manual gives none at the first start (log entries 1, 2 and 3). -/

namespace Sys2Proof.Config

/-- Contexts the context table can hold (R62). -/
abbrev maxContexts : Nat := 32

/-- Entries the expired list can hold (R77). -/
abbrev maxExpired : Nat := 16

/-- Entries a pool can hold (R132). -/
abbrev poolDepth : Nat := 4

/-- The highest line address of the channel, 2^27 - 1 (R12). -/
abbrev lastLine : Nat := 134217727

/-- The highest transaction counter (R180). -/
abbrev maxCounter : Nat := 1048575

/-- The prescaler setting in PASS-ONLY (R172). -/
abbrev passOnlyPrescaler : Nat := 25000

/-- The length of the configuration image in bytes (R167). -/
abbrev imageBytes : Nat := 138

/-- The part's revision, 2.1 (R171, R179). -/
abbrev partRevision : Byte := 0x21#8

/-- An EMPTY key position that has never held a key (R148). -/
def blankPosition : KeyPosition :=
  { state := .empty, keyId := 0#64, baseKey := none, check := none,
    start := 0, limit := 0, next := 0, generation := 0#32 }

/-- The retained store of a part that has never been started: no marker (R160).
DESIGN CHOICE (log entry 1): what else stands in it is not stated; the model names zeros. -/
def firstStore : RetainedStore :=
  { marker := false, latch := false,
    wrapSeq := Vector.replicate 8 0#32,
    positions := Vector.replicate 16 blankPosition }

/-- The transport key, fixed when the part is manufactured and different for every part (R117).
DESIGN CHOICE (log entry 2): no value is stated; `State.reset` names zero, and every statement
holds for every value of the state's field. -/
def firstTransportKey : Block := 0#128

end Sys2Proof.Config
end

