-- ==== Sys2Proof/Machine/State.lean ====
section
/-! DEFINITION. The state of the part, block by block, as plain data; the reasons a step can stop; and
the state right after reset. Lines that other state decides (the DRAM reset line, the channel alert
line, the notice line) are computed in `Machine/Ops.lean` and not held twice. -/

namespace Sys2Proof.Machine

/-! ### The command tracker (section 1) -/

/-- An entry of the bank table (section 1.2). -/
inductive BankEntry where
  | closed
  | opened (row : BitVec 16)
  deriving DecidableEq, Repr

/-- The burst mode of mode word 0 (R8). -/
inductive BurstMode where
  | fixed8
  | onTheFly
  | fixedChop
  deriving DecidableEq, Repr

/-- The burst order of mode word 0 (R8). -/
inductive BurstOrder where
  | sequential
  | interleaved
  deriving DecidableEq, Repr

/-- The mode record (R8). -/
structure ModeRecord where
  burstMode : BurstMode
  burstOrder : BurstOrder
  writeCheck : Bool
  commandParity : Bool
  dataMask : Bool
  writeInversion : Bool
  readInversion : Bool
  deriving DecidableEq, Repr

/-- The tracker state (R16, R17). -/
inductive TrackerState where
  | tracking
  | parityRecovery
  deriving DecidableEq, Repr

/-- The command tracker's four pieces of state. -/
structure Tracker where
  /-- one entry for each bank index (R3) -/
  banks : Vector BankEntry 16
  mode : ModeRecord
  state : TrackerState
  /-- the anomaly counts, saturating (R18) -/
  rowReopen : BitVec 16
  closedBankAccess : BitVec 16
  refreshWithOpen : BitVec 16
  deriving DecidableEq, Repr

/-! ### Burst descriptions (R2) -/

/-- Why a burst description has no line (R2). -/
inductive Absence where
  | closedBank
  | untracked
  deriving DecidableEq, Repr

/-- The line of a burst description, or the reason for its absence (R2). -/
inductive LinePlace where
  | at (line : Nat)
  | absent (reason : Absence)
  deriving DecidableEq, Repr

/-- The extent of a burst (R13). -/
inductive Extent where
  | full
  | choppedLower
  | choppedUpper
  deriving DecidableEq, Repr

/-- The fields a description has for both directions (R2); `dataMask` and `writeInversion` after the
rule of R10. -/
structure BurstDesc where
  place : LinePlace
  extent : Extent
  writeCheck : Bool
  dataMask : Bool
  writeInversion : Bool
  readInversion : Bool
  deriving DecidableEq, Repr

/-! ### Trailers (section 5) -/

/-- The trailer states of Table 5-2. -/
inductive TrailerState where
  | inProgress
  | wrapped
  | short
  | torn
  | abandoned
  | expired
  | orphan
  | fault
  deriving DecidableEq, Repr

/-- The fields of a trailer (Table 5-1); the format field is 01h in every trailer (R88). -/
structure Trailer where
  state : TrailerState
  window : Fin 8
  rejectCount : BitVec 4
  flags : BitVec 16
  slot : Nat
  keyId : KeyId
  counter : BitVec 32
  digitCount : Byte
  till : Byte
  kind : Byte
  declared : Byte
  /-- twenty nibbles, digit position 1 first -/
  masked : List Nibble
  writerRef : BitVec 48
  openTick : Tick
  closeTick : Tick
  /-- bit `j` for body block `j` -/
  coverage : BitVec 32
  wrapSeq : BitVec 32
  tag : BitVec 64
  deriving DecidableEq, Repr

/-- A READ description with its own fields (R2) and the synthesized trailer that answers it, composed
when the READ is taken (R37, R101); `none` when the DRAM's data passes (R36). -/
structure ReadDesc where
  burst : BurstDesc
  startBeat : BitVec 3
  order : BurstOrder
  answer : Option Trailer
  deriving DecidableEq, Repr

/-! ### The write path and the read path (section 2) -/

/-- The write path's state, with the descriptions handed on whose data has not arrived (R2). -/
structure WritePath where
  /-- the alert-cause record, coded as in Table 13-8 (R41) -/
  alertCauses : BitVec 3
  checkFails : BitVec 16
  parityFails : BitVec 16
  /-- the own-alert flag (R42) -/
  ownAlert : Bool
  /-- check-failure pulses in progress: the alert line is held while the count is above 0 (R40) -/
  pulses : Nat
  awaiting : List BurstDesc
  deriving DecidableEq, Repr

/-! ### The window table (section 3) -/

/-- A window record as the image holds it, Table 13-7. -/
structure WindowRecord where
  enabled : Bool
  inspection : Bool
  sizeCode : Byte
  base : BitVec 32
  /-- C - 1 (R183) -/
  countValue : BitVec 16
  timeout : BitVec 16
  threshold : BitVec 16
  deriving DecidableEq, Repr

/-- The freeze-cause set (R48). -/
structure FreezeSet where
  management : Bool
  tamper : Bool
  deriving DecidableEq, Repr

/-- The six outcome counters (R52). -/
structure OutcomeCounts where
  wrapped : BitVec 32
  short : BitVec 32
  torn : BitVec 32
  abandoned : BitVec 32
  expired : BitVec 32
  orphan : BitVec 32
  deriving DecidableEq, Repr

/-- The window blank causes (R53, Table 4-2). -/
inductive BlankCause where
  | fault
  | frozen
  | noKey
  | starved
  | full
  deriving DecidableEq, Repr

/-- What the window table holds for one window; its wrap sequence is in the retained store. -/
structure Window where
  /-- `none` until an image is loaded and in PASS-ONLY (R57) -/
  record : Option WindowRecord
  freeze : FreezeSet
  outcomes : OutcomeCounts
  blanked : BitVec 32
  /-- `none` stands for NONE (R53) -/
  lastBlank : Option BlankCause
  deriving DecidableEq, Repr

/-! ### The context table (section 4) -/

/-- The card inspection result (R111). -/
structure Inspection where
  digitCount : Byte
  masked : List Nibble
  kind : Byte
  till : Byte
  unreadable : Bool
  checkDigitFail : Bool
  deriving DecidableEq, Repr

/-- A context, Table 4-1. -/
structure Context where
  window : Fin 8
  slot : Nat
  keyId : KeyId
  counter : Nat
  ek : Block
  ak : Block
  coverage : BitVec 32
  tagSum : Block
  torn : Bool
  zeroFilled : Bool
  keyLow : Bool
  rejectCount : BitVec 4
  /-- `none` while the result is absent (R114) -/
  inspection : Option Inspection
  openTick : Tick
  lastWrite : Tick
  deriving DecidableEq, Repr

/-- Why a context ended without a close (R77). -/
inductive EndCause where
  | timeout
  | channelReset
  | tamper
  deriving DecidableEq, Repr

/-- An entry of the expired list (R77). -/
structure ExpiredEntry where
  window : Fin 8
  slot : Nat
  keyId : KeyId
  counter : Nat
  openTick : Tick
  coverage : BitVec 32
  cause : EndCause
  endTick : Tick
  deriving DecidableEq, Repr

/-! ### The key table and the derivation unit (section 8) -/

/-- A pool entry (R120). -/
structure PoolEntry where
  counter : Nat
  ek : Block
  ak : Block
  deriving DecidableEq, Repr

/-- The derivation unit's operation in flight (R126, R139). Each operation on a key holds its working
copy, `none` once tamper has cleared it, which makes the result void (R127). -/
inductive Operation where
  | knownAnswer
  /-- position and working copy of the stored base key -/
  | recompute (position : Fin 16) (key : Option Block)
  /-- position, counter reserved, generation recorded at the start, and working copy of the base key
  with the key identifier -/
  | refill (position : Fin 16) (counter : Nat) (generation : BitVec 32) (key : Option (Block × KeyId))
  /-- position and working copy of the key block -/
  | unwrap (position : Fin 16) (block : Option KeyBlock)
  deriving DecidableEq, Repr

/-- The derivation unit (R139). -/
structure Derivation where
  inFlight : Option Operation
  pendingLoad : Option (Fin 16 × KeyBlock)
  /-- the round-robin pointer -/
  pointer : Fin 16
  deriving DecidableEq, Repr

/-! ### The part-level blocks (sections 9 to 12) -/

/-- The time base (section 9). -/
structure TimeBase where
  /-- the prescaler setting P; `none` until the part leaves LOADING (Table 11-3) -/
  prescaler : Option Nat
  /-- the prescaler count -/
  count : Nat
  /-- the tick counter -/
  ticks : Tick
  deriving DecidableEq, Repr

/-- The part states (R157). -/
inductive PartState where
  | reset
  | loading
  | selfTest
  | active
  | passOnly
  | fault
  deriving DecidableEq, Repr

/-- The retained-store outcome (R160). -/
inductive StoreOutcome where
  | notChecked
  | held
  | positionsErased
  | lost
  deriving DecidableEq, Repr

/-- The part controller (section 10); the tamper latch is in the retained store. -/
structure PartController where
  state : PartState
  /-- the notice-cause set, coded as in Table 13-8 (R164) -/
  notices : BitVec 7
  storeOutcome : StoreOutcome
  /-- tamper has been taken since the part left RESET, the end of RESET included (R160) -/
  tamperTaken : Bool
  /-- a check value has mismatched in this SELF-TEST (R160) -/
  mismatch : Bool
  deriving DecidableEq, Repr

/-- The image outcome with its window field (R166). -/
inductive ImageOutcome where
  | pending
  | valid
  | absent
  | signature
  | version
  | check
  | revision
  | window (w : Fin 8)
  | overlap (i j : Fin 8)
  deriving DecidableEq, Repr

/-- What the image loader drives on the configuration memory's port (R167). -/
inductive ConfigPortItem where
  | busRelease
  | readRequest (offset : Nat)
  deriving DecidableEq, Repr

/-- The image loader (section 11). -/
structure ImageLoader where
  outcome : ImageOutcome
  /-- the working copy of the image (R167) -/
  workingCopy : List Byte
  deriving DecidableEq, Repr

/-- The answer codes of Table 12-2. -/
inductive AnswerCode where
  | ok
  | busy
  | badFrame
  | badParam
  | notActive
  | positionActive
  | badCheck
  | badRange
  | duplicateId
  | tampered
  | noStandby
  | lineActive
  deriving DecidableEq, Repr

/-- The held answer (R174). -/
structure Answer where
  code : AnswerCode
  /-- the echoed command code -/
  echo : Byte
  data : List Byte
  deriving DecidableEq, Repr

/-- The management link (section 12). -/
structure Link where
  /-- the bytes of the frame being received (R174) -/
  frame : List Byte
  answer : Answer
  /-- the load-in-progress mark (R177) -/
  loadInProgress : Bool
  deriving DecidableEq, Repr

/-- The levels of the lines that come into the part. -/
structure Inputs where
  /-- the memory controller's reset line is asserted (R20) -/
  controllerReset : Bool
  /-- the DRAM-side alert input is asserted (R42) -/
  dramAlert : Bool
  /-- the tamper line is active (R162) -/
  tamperLine : Bool
  /-- the 25 MHz reference clock is running (R156) -/
  clockRunning : Bool
  deriving DecidableEq, Repr

/-- What the part's outgoing paths last carried (the model's own record of them, log entry 4). -/
structure Ports where
  /-- the command forwarded to the DRAM (R1) -/
  dramCommand : Option Instr
  /-- the write burst forwarded to the DRAM (R22) -/
  dramWrite : Option WireBurst
  /-- the read data sent to the memory controller (R36) -/
  readData : Option (List Beat)
  /-- what the image loader drove on the configuration memory's port in this LOADING (R167) -/
  configPort : List ConfigPortItem
  deriving DecidableEq, Repr

/-- The state of the part. -/
structure State where
  tracker : Tracker
  writePath : WritePath
  /-- READ descriptions whose data has not arrived (R2) -/
  reads : List ReadDesc
  windows : Vector Window 8
  /-- in ascending order of window and then slot -/
  contexts : List Context
  /-- oldest first (R77) -/
  expired : List ExpiredEntry
  /-- each pool lowest counter first (R132) -/
  pools : Vector (List PoolEntry) 16
  derivation : Derivation
  /-- the transport key, held in the derivation unit and not in the retained store (R117) -/
  transportKey : Block
  time : TimeBase
  part : PartController
  loader : ImageLoader
  link : Link
  store : RetainedStore
  inputs : Inputs
  ports : Ports
  /-- the commands waiting, first in, first out -/
  pending : List Instr
  deriving DecidableEq, Repr

/-- The reasons the part can stop with a fault. It has none: every command and event of the table has
an effect the manual gives, in every state. -/
inductive Fault where
  deriving DecidableEq, Repr

/-- The reasons a command can be refused. -/
inductive Refusal where
  /-- raised by `exec` for a row of the table that has no meaning yet (safe); no arm raises it -/
  | notModelled (mnemonic : String)
  deriving DecidableEq, Repr

/-- The values the mode record takes at part reset and at channel reset (R8). -/
def ModeRecord.reset : ModeRecord :=
  { burstMode := .fixed8, burstOrder := .sequential, writeCheck := false, commandParity := false,
    dataMask := false, writeInversion := false, readInversion := false }

/-- A window with no record, no cause and zero counts (R57, R58). -/
def Window.blank : Window :=
  { record := none, freeze := { management := false, tamper := false },
    outcomes := { wrapped := 0#32, short := 0#32, torn := 0#32, abandoned := 0#32,
                  expired := 0#32, orphan := 0#32 },
    blanked := 0#32, lastBlank := none }

/-- The part right after part reset, its reset input still asserted, started for the first time
(R158; R21, R43, R58, R87, R139, R152, R166, R176 for the blocks). The levels of the incoming lines
are DESIGN CHOICE (log entry 3). -/
def State.reset : State :=
  { tracker :=
      { banks := Vector.replicate 16 .closed, mode := ModeRecord.reset, state := .tracking,
        rowReopen := 0#16, closedBankAccess := 0#16, refreshWithOpen := 0#16 }
    writePath :=
      { alertCauses := 0#3, checkFails := 0#16, parityFails := 0#16, ownAlert := false,
        pulses := 0, awaiting := [] }
    reads := []
    windows := Vector.replicate 8 Window.blank
    contexts := []
    expired := []
    pools := Vector.replicate 16 []
    derivation := { inFlight := none, pendingLoad := none, pointer := 15 }
    transportKey := Config.firstTransportKey
    time := { prescaler := none, count := 0, ticks := 0#32 }
    part :=
      { state := .reset, notices := 0#7, storeOutcome := .notChecked, tamperTaken := false,
        mismatch := false }
    loader := { outcome := .pending, workingCopy := [] }
    link :=
      { frame := [], answer := { code := .ok, echo := 0#8, data := [] }, loadInProgress := false }
    store := Config.firstStore
    inputs :=
      { controllerReset := false, dramAlert := false, tamperLine := false, clockRunning := true }
    ports := { dramCommand := none, dramWrite := none, readData := none, configPort := [] }
    pending := [] }

end Sys2Proof.Machine
end

