-- ==== Sys2Proof/Machine/Operands.lean ====
section
/-! DEFINITION. The operand forms: the fold of a command's fields into a line, the extent and beats of a
burst, the bytes of a burst on its lanes, and the records read from bytes (window record, close word,
descriptor block). -/

namespace Sys2Proof.Machine

/-! ### Commands of the channel (section 1) -/

/-- The bank index, 4 times the bank group plus the bank (section 1.2). -/
def bankIndex (group bank : BitVec 2) : Fin 16 :=
  ⟨4 * group.toNat + bank.toNat, by have := group.isLt; have := bank.isLt; omega⟩

/-- The line address of a row, bank index and column (R12). -/
def foldLine (row : BitVec 16) (index : Fin 16) (column : BitVec 10) : Nat :=
  (row.toNat * 16 + index.val) * 128 + column.toNat / 8

/-- The mode word number of a MODE SET (R9). -/
def modeWord (group bank : BitVec 2) : Nat :=
  4 * (group.toNat % 2) + bank.toNat

/-- The extent of a burst under a burst mode (R13). -/
def burstExtent (mode : BurstMode) (column : BitVec 10) (chop : Bool) : Extent :=
  let half : Extent := if column.toNat % 8 < 4 then .choppedLower else .choppedUpper
  match mode with
  | .fixed8 => .full
  | .fixedChop => half
  | .onTheFly => if chop then half else .full

/-- The burst mode coded on address lines 1 and 0 of mode word 0 (Table 1-2). -/
def burstModeOf (address : BitVec 18) : BurstMode :=
  match address.getLsbD 1, address.getLsbD 0 with
  | false, true => .onTheFly
  | true, false => .fixedChop
  | _, _ => .fixed8

/-- The mode record after a MODE SET of a mode word is taken (R9, Table 1-2). -/
def modeAfter (mode : ModeRecord) (word : Nat) (address : BitVec 18) : ModeRecord :=
  match word with
  | 0 =>
    { mode with
      burstMode := burstModeOf address
      burstOrder := if address.getLsbD 3 then .interleaved else .sequential }
  | 2 => { mode with writeCheck := address.getLsbD 12 }
  | 5 =>
    { mode with
      commandParity := address.getLsbD 2 || address.getLsbD 1 || address.getLsbD 0
      dataMask := address.getLsbD 10
      writeInversion := address.getLsbD 11
      readInversion := address.getLsbD 12 }
  | _ => mode

/-- The fields a burst description takes from the mode record (R2), data mask off where write
inversion is on (R10). -/
def describe (mode : ModeRecord) (place : LinePlace) (extent : Extent) : BurstDesc :=
  { place := place, extent := extent, writeCheck := mode.writeCheck,
    dataMask := mode.dataMask && !mode.writeInversion,
    writeInversion := mode.writeInversion, readInversion := mode.readInversion }

/-! ### The beats of a burst (1.5) -/

/-- How many beats a burst carries (R13). -/
def Extent.beats : Extent → Nat
  | .full => 8
  | .choppedLower => 4
  | .choppedUpper => 4

/-- The first line beat of a burst's whole or half line (R14). -/
def Extent.firstBeat : Extent → Nat
  | .full => 0
  | .choppedLower => 0
  | .choppedUpper => 4

/-- The line beat that burst beat `k` of a READ carries (R15). -/
def readBeat (extent : Extent) (order : BurstOrder) (start k : Nat) : Nat :=
  match extent, order with
  | .full, .sequential => (start + k) % 8
  | .full, .interleaved => start ^^^ k
  | e, .sequential => e.firstBeat + (start % 4 + k) % 4
  | e, .interleaved => e.firstBeat + ((start % 4) ^^^ k)

/-! ### Bytes on the lanes (2.3, 2.4) -/

/-- A byte as it arrived on a capture burst: its plaintext, or `none` when it is masked (R27). -/
def arrivedByte (d : BurstDesc) (w : WireByte) : Option Byte :=
  if d.writeInversion then some (if w.asserted then ~~~w.data else w.data)
  else if d.dataMask then (if w.asserted then none else some w.data)
  else some w.data

/-- A byte as an inverting path sends it: complemented, with its line asserted, when it holds more than
four 0 bits (R28, R39). -/
def sentByte (inversion : Bool) (b : Byte) : WireByte :=
  if inversion && decide (4 < zeroBits b) then { data := ~~~b, asserted := true }
  else { data := b, asserted := false }

/-- The write check codes of the eight lanes over the data lines as driven (R24). -/
def laneCodes (beats : List Beat) : List Byte :=
  (List.range 8).map fun lane =>
    laneCode (beats.map fun beat => (beat.map WireByte.data).getD lane 0#8)

/-- The form of a burst that the part blanks or composes from its line beats (R28); `complemented` for
the codes of a check failure (R26). -/
def composedBurst (d : BurstDesc) (beats : List (List Byte)) (complemented : Bool) : WireBurst :=
  let wire := beats.map fun beat => beat.map (sentByte d.writeInversion)
  { beats := wire
    codes :=
      if d.writeCheck then
        some ((laneCodes wire).map fun c => if complemented then ~~~c else c)
      else none }

/-- A burst's worth of zero beats (R26, R30, R31). -/
def zeroBeats (d : BurstDesc) : List (List Byte) :=
  List.replicate d.extent.beats (List.replicate 8 0#8)

/-- Whether a capture burst passes its write check (R25). -/
def passesCheck (d : BurstDesc) (burst : WireBurst) : Bool :=
  !d.writeCheck || burst.codes == some (laneCodes burst.beats)

/-! ### Body blocks (R32) -/

/-- A body block handed to the context table (R32). -/
structure BodyBlock where
  number : Nat
  /-- plaintext, masked bytes as 00h (R29) -/
  plain : Block
  /-- some byte was masked and zero-filled -/
  zeroFilled : Bool
  deriving DecidableEq, Repr

/-- The bytes of the beats `2i` and `2i + 1` of a burst, as they arrived (R32). -/
def blockArrived (d : BurstDesc) (burst : WireBurst) (i : Nat) : List (Option Byte) :=
  (burst.beats.getD (2 * i) [] ++ burst.beats.getD (2 * i + 1) []).map (arrivedByte d)

/-- The body block carried in the beats `2i` and `2i + 1` of a burst to body line `p` (R32). -/
def bodyBlock (d : BurstDesc) (burst : WireBurst) (p i : Nat) : BodyBlock :=
  { number := 4 * p + d.extent.firstBeat / 2 + i
    plain := blockOfBytes ((blockArrived d burst i).map fun b => b.getD 0#8)
    zeroFilled := (blockArrived d burst i).any Option.isNone }

/-- The body blocks of a capture body burst to body line `p` (R32). -/
def bodyBlocks (d : BurstDesc) (burst : WireBurst) (p : Nat) : List BodyBlock :=
  (List.range (d.extent.beats / 2)).map (bodyBlock d burst p)

/-- The two beats of a block returned to the write path (R32). -/
def blockBeats (x : Block) : List (List Byte) :=
  [(bytesOfBlock x).take 8, (bytesOfBlock x).drop 8]

/-! ### Window records (3.1, Table 13-7) -/

/-- The slot size S in lines (R44); the size code is the number of lines (Table 13-7). -/
def WindowRecord.size (r : WindowRecord) : Nat := r.sizeCode.toNat

/-- The slot count C (R183). -/
def WindowRecord.slots (r : WindowRecord) : Nat := r.countValue.toNat + 1

/-- The body capacity in blocks (R44). -/
def WindowRecord.capacity (r : WindowRecord) : Nat := 4 * (r.size - 1)

/-- The last line of the window, B + S x C - 1 (R44). -/
def WindowRecord.lastLine (r : WindowRecord) : Nat := r.base.toNat + r.size * r.slots - 1

/-- Whether the window spans a line (R46). -/
def WindowRecord.covers (r : WindowRecord) (line : Nat) : Bool :=
  decide (r.base.toNat ≤ line) && decide (line ≤ r.lastLine)

/-- The tests of one enabled record (R170). -/
def WindowRecord.wellFormed (r : WindowRecord) : Bool :=
  (r.sizeCode == 0x02#8 || r.sizeCode == 0x04#8 || r.sizeCode == 0x08#8) &&
    (r.base.toNat % r.size == 0) && decide (r.lastLine ≤ Config.lastLine)

/-- Whether two windows share a line (R170). -/
def WindowRecord.overlaps (r q : WindowRecord) : Bool :=
  decide (r.base.toNat ≤ q.lastLine) && decide (q.base.toNat ≤ r.lastLine)

/-- The window record at an offset of the image (Table 13-7). -/
def recordAt (image : List Byte) (offset : Nat) : WindowRecord :=
  { enabled := (byteAt image offset).getLsbD 0
    inspection := (byteAt image offset).getLsbD 1
    sizeCode := byteAt image (offset + 1)
    base := BitVec.ofNat 32 (fieldBE image (offset + 2) 4)
    countValue := BitVec.ofNat 16 (fieldBE image (offset + 6) 2)
    timeout := BitVec.ofNat 16 (fieldBE image (offset + 8) 2)
    threshold := BitVec.ofNat 16 (fieldBE image (offset + 10) 2) }

/-! ### The close word (R72, Table 13-2) -/

/-- The three values of a close word as they arrived (Table 13-2). -/
structure CloseWord where
  code : Byte
  length : Byte
  writerRef : BitVec 48
  deriving DecidableEq, Repr

/-- The close word that eight bytes hold (Table 13-2). -/
def closeWordOf (bytes : List Byte) : CloseWord :=
  { code := byteAt bytes 0, length := byteAt bytes 1,
    writerRef :=
      byteAt bytes 2 ++ byteAt bytes 3 ++ byteAt bytes 4 ++ byteAt bytes 5 ++ byteAt bytes 6 ++
        byteAt bytes 7 }

/-- The close word a capture trailer burst delivers: line beat 0 after R27 and R29, or zeros when the
burst does not carry it (R33, R34). -/
def deliveredCloseWord (d : BurstDesc) (burst : WireBurst) : CloseWord :=
  if d.extent = .choppedUpper then closeWordOf (List.replicate 8 0#8)
  else closeWordOf ((burst.beats.getD 0 []).map fun w => (arrivedByte d w).getD 0#8)

/-- The close word asks for ABANDON (R72). -/
def CloseWord.abandons (w : CloseWord) : Bool := w.code == 0x02#8

/-- The close code is neither CLOSE nor ABANDON (R72). -/
def CloseWord.unknownCode (w : CloseWord) : Bool := !(w.code == 0x01#8) && !(w.code == 0x02#8)

/-- The declared length is taken as the capacity (R72). -/
def CloseWord.clamped (w : CloseWord) (capacity : Nat) : Bool :=
  decide (w.length.toNat = 0) || decide (capacity < w.length.toNat)

/-- The declared length D as taken (R72). -/
def CloseWord.declared (w : CloseWord) (capacity : Nat) : Nat :=
  if w.clamped capacity then capacity else w.length.toNat

end Sys2Proof.Machine
end

