-- ==== Sys2Proof/Machine/Inspector.lean ====
section
/-! DEFINITION. The card inspector: a descriptor block in, an inspection result out (section 6). -/

namespace Sys2Proof.Machine

/-- Twenty Fh nibbles (R107). -/
def blankMasked : List Nibble := List.replicate 20 0xF#4

/-- The nibbles of the digit field, position 1 first (R105, Table 13-1). -/
def digitField (bytes : List Byte) : List Nibble :=
  ((bytes.drop 2).take 10).flatMap nibblesOfByte

/-- The two readability tests (R106). -/
def readable (count : Nat) (digits : List Nibble) : Bool :=
  decide (12 ≤ count) && decide (count ≤ 19) &&
    (digits.take count).all fun d => decide (d.toNat ≤ 9)

/-- What a digit contributes at an even place: doubled, less 9 when above 9 (R108). -/
def doubledDigit (d : Nat) : Nat := if 9 < 2 * d then 2 * d - 9 else 2 * d

/-- The check sum of digits read from the right, the first at an odd place when `odd` (R108). -/
def sumFromRight : Bool → List Nat → Nat
  | _, [] => 0
  | true, d :: rest => d + sumFromRight false rest
  | false, d :: rest => doubledDigit d + sumFromRight true rest

/-- The check sum of a card number, leftmost digit first (R108). -/
def checkSum (digits : List Nibble) : Nat :=
  sumFromRight true (digits.reverse.map BitVec.toNat)

/-- The nibble of the masked number at digit position `i + 1` (R110). -/
def maskedNibble (count : Nat) (digits : List Nibble) (i : Nat) : Nibble :=
  if i < 6 then digits.getD i 0#4
  else if i + 4 < count then 0xA#4
  else if i < count then digits.getD i 0#4
  else 0xF#4

/-- The masked number of a readable number (R110). -/
def maskedNumber (count : Nat) (digits : List Nibble) : List Nibble :=
  (List.range 20).map (maskedNibble count digits)

/-- The inspection of a descriptor block's 16 bytes (R105 to R111). -/
def inspectBytes (bytes : List Byte) : Inspection :=
  let count := byteAt bytes 1
  let digits := digitField bytes
  if readable count.toNat digits then
    { digitCount := count
      masked := maskedNumber count.toNat digits
      kind := byteAt bytes 0, till := byteAt bytes 15
      unreadable := false
      checkDigitFail := decide (checkSum (digits.take count.toNat) % 10 ≠ 0) }
  else
    { digitCount := 0x00#8, masked := blankMasked
      kind := byteAt bytes 0, till := byteAt bytes 15
      unreadable := true, checkDigitFail := false }

/-- The fixed result of a window with inspection off (R113). -/
def uninspected : Inspection :=
  { digitCount := 0x00#8, masked := blankMasked, kind := 0x00#8, till := 0x00#8,
    unreadable := false, checkDigitFail := false }

/-- The card inspection result stored when block 0 is enciphered (R69, R104, R113). -/
def inspectionOf (inspectionOn : Bool) (plain : Block) : Inspection :=
  if inspectionOn then inspectBytes (bytesOfBlock plain) else uninspected

end Sys2Proof.Machine
end

