-- ==== Sys2Proof/Machine/Cipher.lean ====
section
/-! DEFINITION. The block cipher and the compositions made of it (section 7). The manual names the
cipher, AES-128, and uses it as a keyed permutation (R116); its rounds are written here from the
public standard for AES (PRESUMED, log entry 5). -/

namespace Sys2Proof.Machine

/-! ### The block cipher -/

/-- Four bytes of the cipher's working array, top row first. -/
structure Column where
  a : Byte
  b : Byte
  c : Byte
  d : Byte
  deriving DecidableEq, Repr

/-- The cipher's working array of sixteen bytes, column by column. -/
structure CipherArray where
  c0 : Column
  c1 : Column
  c2 : Column
  c3 : Column
  deriving DecidableEq, Repr

/-- The rows of the substitution table, sixteen bytes a row. -/
def sboxRows : List Block :=
  [
    0x637c777bf26b6fc53001672bfed7ab76#128,
    0xca82c97dfa5947f0add4a2af9ca472c0#128,
    0xb7fd9326363ff7cc34a5e5f171d83115#128,
    0x04c723c31896059a071280e2eb27b275#128,
    0x09832c1a1b6e5aa0523bd6b329e32f84#128,
    0x53d100ed20fcb15b6acbbe394a4c58cf#128,
    0xd0efaafb434d338545f9027f503c9fa8#128,
    0x51a3408f929d38f5bcb6da2110fff3d2#128,
    0xcd0c13ec5f974417c4a77e3d645d1973#128,
    0x60814fdc222a908846eeb814de5e0bdb#128,
    0xe0323a0a4906245cc2d3ac629195e479#128,
    0xe7c8376d8dd54ea96c56f4ea657aae08#128,
    0xba78252e1ca6b4c6e8dd741f4bbd8b8a#128,
    0x703eb5664803f60e613557b986c11d9e#128,
    0xe1f8981169d98e949b1e87e9ce5528df#128,
    0x8ca1890dbfe6426841992d0fb054bb16#128]

/-- The rows of the inverse substitution table. -/
def invSboxRows : List Block :=
  [
    0x52096ad53036a538bf40a39e81f3d7fb#128,
    0x7ce339829b2fff87348e4344c4dee9cb#128,
    0x547b9432a6c2233dee4c950b42fac34e#128,
    0x082ea16628d924b2765ba2496d8bd125#128,
    0x72f8f66486689816d4a45ccc5d65b692#128,
    0x6c704850fdedb9da5e154657a78d9d84#128,
    0x90d8ab008cbcd30af7e45805b8b34506#128,
    0xd02c1e8fca3f0f02c1afbd0301138a6b#128,
    0x3a9111414f67dcea97f2cfcef0b4e673#128,
    0x96ac7422e7ad3585e2f937e81c75df6e#128,
    0x47f11a711d29c5896fb7620eaa18be1b#128,
    0xfc563e4bc6d279209adbc0fe78cd5af4#128,
    0x1fdda8338807c731b11210592780ec5f#128,
    0x60517fa919b54a0d2de57a9f93c99cef#128,
    0xa0e03b4dae2af5b0c8ebbb3c83539961#128,
    0x172b047eba77d626e169146355210c7d#128]

/-- The entry of a substitution table for a byte: row by its high nibble, place by its low nibble. -/
def lookupRows (rows : List Block) (x : Byte) : Byte :=
  (rows.getD (x.toNat / 16) 0#128).extractLsb' (8 * (15 - x.toNat % 16)) 8

/-- The substitution of one byte. -/
def subByte (x : Byte) : Byte := lookupRows sboxRows x

/-- The inverse substitution of one byte. -/
def invSubByte (x : Byte) : Byte := lookupRows invSboxRows x

/-- Multiplication by x in the cipher's field of 256 elements. -/
def xtime (x : Byte) : Byte :=
  if x.msb then (x <<< 1) ^^^ 0x1B#8 else x <<< 1

/-- A function applied to each byte of a column. -/
def Column.map (f : Byte → Byte) (x : Column) : Column :=
  { a := f x.a, b := f x.b, c := f x.c, d := f x.d }

/-- The bytewise XOR of two columns. -/
def Column.add (x y : Column) : Column :=
  { a := x.a ^^^ y.a, b := x.b ^^^ y.b, c := x.c ^^^ y.c, d := x.d ^^^ y.d }

/-- The column mixing of one column: multiplication by the circulant of 2, 3, 1, 1. -/
def Column.mix (x : Column) : Column :=
  { a := xtime x.a ^^^ (xtime x.b ^^^ x.b) ^^^ x.c ^^^ x.d
    b := x.a ^^^ xtime x.b ^^^ (xtime x.c ^^^ x.c) ^^^ x.d
    c := x.a ^^^ x.b ^^^ xtime x.c ^^^ (xtime x.d ^^^ x.d)
    d := (xtime x.a ^^^ x.a) ^^^ x.b ^^^ x.c ^^^ xtime x.d }

/-- Multiplication by 9 in the cipher's field. -/
def times9 (x : Byte) : Byte := xtime (xtime (xtime x)) ^^^ x

/-- Multiplication by 11 in the cipher's field. -/
def times11 (x : Byte) : Byte := xtime (xtime (xtime x)) ^^^ xtime x ^^^ x

/-- Multiplication by 13 in the cipher's field. -/
def times13 (x : Byte) : Byte := xtime (xtime (xtime x)) ^^^ xtime (xtime x) ^^^ x

/-- Multiplication by 14 in the cipher's field. -/
def times14 (x : Byte) : Byte := xtime (xtime (xtime x)) ^^^ xtime (xtime x) ^^^ xtime x

/-- The inverse column mixing: multiplication by the circulant of 14, 11, 13, 9. -/
def Column.unmix (x : Column) : Column :=
  { a := times14 x.a ^^^ times11 x.b ^^^ times13 x.c ^^^ times9 x.d
    b := times9 x.a ^^^ times14 x.b ^^^ times11 x.c ^^^ times13 x.d
    c := times13 x.a ^^^ times9 x.b ^^^ times14 x.c ^^^ times11 x.d
    d := times11 x.a ^^^ times13 x.b ^^^ times9 x.c ^^^ times14 x.d }

/-- A function applied to each column. -/
def CipherArray.map (f : Column → Column) (x : CipherArray) : CipherArray :=
  { c0 := f x.c0, c1 := f x.c1, c2 := f x.c2, c3 := f x.c3 }

/-- The bytewise XOR of two arrays. -/
def CipherArray.add (x y : CipherArray) : CipherArray :=
  { c0 := x.c0.add y.c0, c1 := x.c1.add y.c1, c2 := x.c2.add y.c2, c3 := x.c3.add y.c3 }

/-- The row shift: row `r` moves left by `r` columns. -/
def CipherArray.shift (x : CipherArray) : CipherArray :=
  { c0 := { a := x.c0.a, b := x.c1.b, c := x.c2.c, d := x.c3.d }
    c1 := { a := x.c1.a, b := x.c2.b, c := x.c3.c, d := x.c0.d }
    c2 := { a := x.c2.a, b := x.c3.b, c := x.c0.c, d := x.c1.d }
    c3 := { a := x.c3.a, b := x.c0.b, c := x.c1.c, d := x.c2.d } }

/-- The inverse row shift: row `r` moves right by `r` columns. -/
def CipherArray.unshift (x : CipherArray) : CipherArray :=
  { c0 := { a := x.c0.a, b := x.c3.b, c := x.c2.c, d := x.c1.d }
    c1 := { a := x.c1.a, b := x.c0.b, c := x.c3.c, d := x.c2.d }
    c2 := { a := x.c2.a, b := x.c1.b, c := x.c0.c, d := x.c3.d }
    c3 := { a := x.c3.a, b := x.c2.b, c := x.c1.c, d := x.c0.d } }

/-- Byte `k` of a block, byte 0 the most significant (R116). -/
def blockByte (x : Block) (k : Nat) : Byte := x.extractLsb' (8 * (15 - k)) 8

/-- The column of four bytes of a block from byte `k` on. -/
def blockColumn (x : Block) (k : Nat) : Column :=
  { a := blockByte x k, b := blockByte x (k + 1), c := blockByte x (k + 2),
    d := blockByte x (k + 3) }

/-- A block as the cipher's array, bytes taken column by column. -/
def arrayOfBlock (x : Block) : CipherArray :=
  { c0 := blockColumn x 0, c1 := blockColumn x 4, c2 := blockColumn x 8, c3 := blockColumn x 12 }

/-- The four bytes of a column as one word, top row first. -/
def Column.word (x : Column) : BitVec 32 := x.a ++ x.b ++ x.c ++ x.d

/-- The block that an array holds. -/
def blockOfArray (x : CipherArray) : Block :=
  x.c0.word ++ x.c1.word ++ x.c2.word ++ x.c3.word

/-- The next round key: the last column rotated, substituted and given the round constant, then
carried through the columns. -/
def nextRoundKey (k : CipherArray) (constant : Byte) : CipherArray :=
  let t : Column :=
    { a := subByte k.c3.b ^^^ constant, b := subByte k.c3.c, c := subByte k.c3.d,
      d := subByte k.c3.a }
  let c0 := k.c0.add t
  let c1 := k.c1.add c0
  let c2 := k.c2.add c1
  { c0 := c0, c1 := c1, c2 := c2, c3 := k.c3.add c2 }

/-- The round keys that follow a round key, one for each round constant. -/
def expandKey (k : CipherArray) : List Byte → List CipherArray
  | [] => []
  | constant :: rest => nextRoundKey k constant :: expandKey (nextRoundKey k constant) rest

/-- The ten round constants. -/
def roundConstants : List Byte :=
  [0x01#8, 0x02#8, 0x04#8, 0x08#8, 0x10#8, 0x20#8, 0x40#8, 0x80#8, 0x1B#8, 0x36#8]

/-- The rounds under a list of round keys; the last round does not mix columns. -/
def cipherRounds : List CipherArray → CipherArray → CipherArray
  | [], x => x
  | [k], x => (x.map (Column.map subByte)).shift.add k
  | k :: rest, x => cipherRounds rest ((((x.map (Column.map subByte)).shift).map Column.mix).add k)

/-- The rounds undone. -/
def cipherUnrounds : List CipherArray → CipherArray → CipherArray
  | [], x => x
  | [k], x => ((x.add k).unshift).map (Column.map invSubByte)
  | k :: rest, x =>
    ((((cipherUnrounds rest x).add k).map Column.unmix).unshift).map (Column.map invSubByte)

/-- The block cipher `E(K, X)` (R116). -/
def encipher (key x : Block) : Block :=
  let k := arrayOfBlock key
  blockOfArray (cipherRounds (expandKey k roundConstants) ((arrayOfBlock x).add k))

/-- The inverse of the block cipher under one key (R116). -/
def decipher (key x : Block) : Block :=
  let k := arrayOfBlock key
  blockOfArray ((cipherUnrounds (expandKey k roundConstants) (arrayOfBlock x)).add k)

/-! ### The compositions (7.2 to 7.6) -/

/-- The transport unwrap of an enciphered base key (R118). -/
def transportUnwrap (transportKey enciphered : Block) : Block :=
  decipher transportKey enciphered

/-- The check value of a base key: the first 3 bytes of the enciphered zero block (R119). -/
def checkValue (baseKey : Block) : BitVec 24 :=
  (encipher baseKey 0#128).extractLsb' 104 24

/-- The derivation block of a counter, `last` being 01h for D1 and 02h for D2 (R120). -/
def derivationBlock (keyId : KeyId) (counter : Nat) (last : Byte) : Block :=
  keyId ++ BitVec.ofNat 32 counter ++ 0#24 ++ last

/-- The pool entry derived for a counter (R120). -/
def derivePair (baseKey : Block) (keyId : KeyId) (counter : Nat) : Block × Block :=
  (encipher baseKey (derivationBlock keyId counter 0x01#8),
   encipher baseKey (derivationBlock keyId counter 0x02#8))

/-- The position block of a block number (R121). -/
def positionBlock (number window slot counter : Nat) (keyId : KeyId) : Block :=
  BitVec.ofNat 8 number ++ BitVec.ofNat 8 window ++ BitVec.ofNat 16 slot ++
    BitVec.ofNat 32 counter ++ keyId

/-- The keystream block of a position (R122). -/
def keystream (ek position : Block) : Block := encipher ek position

/-- The tag term of a block at a position (R123). -/
def tagTerm (ak plain position : Block) : Block := encipher ak (plain ^^^ position)

/-- The first 8 bytes of the finally enciphered sum (R124). -/
def finalTag (ak sum : Block) : BitVec 64 := (encipher ak sum).extractLsb' 64 64

end Sys2Proof.Machine
end

