-- ==== Sys2Proof/Machine/Flags.lean ====
section
/-! DEFINITION. Cause sets, trailer flags and the codes of enumerated values (Tables 5-2, 12-2, 13-4
and 13-8). -/

namespace Sys2Proof.Machine

/-- The notice causes (Table 10-3). -/
inductive NoticeCause where
  | image
  | store
  | fault
  | tamper
  | keyLow
  | noKey
  | blanked
  deriving DecidableEq, Repr

/-- The notice causes' bits (Table 13-8). -/
def NoticeCause.mask : NoticeCause → BitVec 7
  | .image => 0x01#7
  | .store => 0x02#7
  | .fault => 0x04#7
  | .tamper => 0x08#7
  | .keyLow => 0x10#7
  | .noKey => 0x20#7
  | .blanked => 0x40#7

/-- The alert causes (R41). -/
inductive AlertCause where
  | parityFail
  | checkFail
  | dramAlert
  deriving DecidableEq, Repr

/-- The alert causes' bits (Table 13-8). -/
def AlertCause.mask : AlertCause → BitVec 3
  | .parityFail => 1#3
  | .checkFail => 2#3
  | .dramAlert => 4#3

/-- The trailer flags (Table 5-3). -/
inductive TrailerFlag where
  | descAbsent
  | digitsUnreadable
  | checkDigitFail
  | zeroFilled
  | extraBlocks
  | lengthClamped
  | closeCodeUnknown
  | keyLow
  | endTimeout
  | endChannelReset
  | endTamper
  deriving DecidableEq, Repr

/-- The trailer flags' bits (Table 13-4). -/
def TrailerFlag.mask : TrailerFlag → BitVec 16
  | .descAbsent => 0x0001#16
  | .digitsUnreadable => 0x0002#16
  | .checkDigitFail => 0x0004#16
  | .zeroFilled => 0x0008#16
  | .extraBlocks => 0x0010#16
  | .lengthClamped => 0x0020#16
  | .closeCodeUnknown => 0x0040#16
  | .keyLow => 0x0080#16
  | .endTimeout => 0x0100#16
  | .endChannelReset => 0x0200#16
  | .endTamper => 0x0400#16

/-- The flag's bit when the condition holds, nothing otherwise. -/
def TrailerFlag.when (f : TrailerFlag) (condition : Bool) : BitVec 16 :=
  if condition then f.mask else 0#16

/-- The END flag of an end cause (R76). -/
def EndCause.flag : EndCause → TrailerFlag
  | .timeout => .endTimeout
  | .channelReset => .endChannelReset
  | .tamper => .endTamper

/-- The trailer state codes (Table 5-2). -/
def TrailerState.code : TrailerState → Byte
  | .inProgress => 0x01#8
  | .wrapped => 0x02#8
  | .short => 0x03#8
  | .torn => 0x04#8
  | .abandoned => 0x05#8
  | .expired => 0x06#8
  | .orphan => 0x07#8
  | .fault => 0x0F#8

/-- The answer codes (Table 12-2). -/
def AnswerCode.code : AnswerCode → Byte
  | .ok => 0x00#8
  | .busy => 0x01#8
  | .badFrame => 0x02#8
  | .badParam => 0x03#8
  | .notActive => 0x04#8
  | .positionActive => 0x05#8
  | .badCheck => 0x06#8
  | .badRange => 0x07#8
  | .duplicateId => 0x08#8
  | .tampered => 0x09#8
  | .noStandby => 0x0A#8
  | .lineActive => 0x0B#8

/-- The part state codes (Table 13-8); RESET has none, since the link answers in no RESET (R174). -/
def PartState.code : PartState → Byte
  | .reset => 0x00#8
  | .loading => 0x01#8
  | .selfTest => 0x02#8
  | .active => 0x03#8
  | .passOnly => 0x04#8
  | .fault => 0x05#8

/-- The image outcome codes (Table 13-8). -/
def ImageOutcome.code : ImageOutcome → Byte
  | .pending => 0x00#8
  | .valid => 0x01#8
  | .absent => 0x02#8
  | .signature => 0x03#8
  | .version => 0x04#8
  | .check => 0x05#8
  | .revision => 0x06#8
  | .window _ => 0x07#8
  | .overlap _ _ => 0x08#8

/-- The two bytes of the image outcome's window field, FFh where absent (Table 13-9). -/
def ImageOutcome.windowField : ImageOutcome → List Byte
  | .window w => [BitVec.ofNat 8 w.val, 0xFF#8]
  | .overlap i j => [BitVec.ofNat 8 i.val, BitVec.ofNat 8 j.val]
  | _ => [0xFF#8, 0xFF#8]

/-- The retained-store outcome codes (Table 13-8). -/
def StoreOutcome.code : StoreOutcome → Byte
  | .notChecked => 0x00#8
  | .held => 0x01#8
  | .positionsErased => 0x02#8
  | .lost => 0x03#8

/-- The tracker state codes (Table 13-8). -/
def TrackerState.code : TrackerState → Byte
  | .tracking => 0x00#8
  | .parityRecovery => 0x01#8

/-- The key position state codes (Table 13-8). -/
def keyStateCode : KeyState → Byte
  | .empty => 0x00#8
  | .ready => 0x01#8
  | .active => 0x02#8
  | .spent => 0x03#8

/-- The last blank cause codes (Table 13-8). -/
def blankCode : Option BlankCause → Byte
  | none => 0x00#8
  | some .fault => 0x01#8
  | some .frozen => 0x02#8
  | some .noKey => 0x03#8
  | some .starved => 0x04#8
  | some .full => 0x05#8

/-- The byte of a flag that stands alone in a frame (Table 13-8). -/
def flagByte (b : Bool) : Byte := if b then 0x01#8 else 0x00#8

/-- The freeze-cause byte (Table 13-8). -/
def FreezeSet.byte (f : FreezeSet) : Byte :=
  (if f.management then 0x01#8 else 0x00#8) ||| (if f.tamper then 0x02#8 else 0x00#8)

/-- The window is frozen while its set is not empty (R48). -/
def FreezeSet.frozen (f : FreezeSet) : Bool := f.management || f.tamper

end Sys2Proof.Machine
end

