-- ==== Sys2Proof/Machine/Ops.lean ====
section
/-! DEFINITION. The operations the commands share: the lines the part drives, the cause sets, the window
lookup, the context table and expired list as collections, key positions with pools, rollover and the
arbiter, the held answer, and taking a tick. -/

namespace Sys2Proof.Machine

/-! ### What the part state allows -/

/-- The part has left LOADING (R20, R21, R152). -/
def PartState.afterLoading : PartState → Bool
  | .reset => false
  | .loading => false
  | _ => true

/-- The window table holds its loaded records (R49, R178). -/
def PartState.holdsRecords : PartState → Bool
  | .selfTest => true
  | .active => true
  | .fault => true
  | _ => false

/-! ### The lines the part drives -/

/-- The DRAM reset line is asserted (R19). -/
def dramResetLine (s : State) : Bool :=
  if s.part.state.afterLoading then s.inputs.controllerReset else true

/-- The channel alert line is asserted (R40). -/
def alertLine (s : State) : Bool :=
  s.tracker.state == .parityRecovery || decide (0 < s.writePath.pulses) || s.inputs.dramAlert

/-- The notice line is asserted (R164). -/
def noticeLine (s : State) : Bool := s.part.notices != 0#7

/-! ### Cause sets -/

/-- A notice cause is added to the set (R164). -/
def raiseNotice (c : NoticeCause) (s : State) : State :=
  { s with part.notices := s.part.notices ||| c.mask }

/-- A notice cause is added when a condition holds. -/
def raiseNoticeWhen (condition : Bool) (c : NoticeCause) (s : State) : State :=
  if condition then raiseNotice c s else s

/-- An alert cause is added to the record (R41). -/
def addAlert (c : AlertCause) (s : State) : State :=
  { s with writePath.alertCauses := s.writePath.alertCauses ||| c.mask }

/-! ### The window table (section 3) -/

/-- Where a line lies in an enabled window (R46, R47). -/
structure Placement where
  window : Fin 8
  record : WindowRecord
  slot : Nat
  /-- the line-in-slot -/
  pos : Nat
  deriving DecidableEq, Repr

/-- The placement is the trailer line of its slot (R47). -/
def Placement.isTrailer (p : Placement) : Bool := p.pos + 1 == p.record.size

/-- The placement of a line in a window whose record covers it (R47). -/
def placeIn (w : Fin 8) (r : WindowRecord) (line : Nat) : Placement :=
  { window := w, record := r, slot := (line - r.base.toNat) / r.size,
    pos := (line - r.base.toNat) % r.size }

/-- The placement of a line in one window, if that window is enabled and covers it (R46). -/
def placeInWindow (s : State) (line : Nat) (w : Fin 8) : Option Placement :=
  match s.windows[w].record with
  | some r => if r.enabled && r.covers line then some (placeIn w r line) else none
  | none => none

/-- The window table's answer for a line (R46). -/
def placeLine (s : State) (line : Nat) : Option Placement :=
  (List.finRange 8).findSome? (placeInWindow s line)

/-- The window has a loaded record that is enabled (R44). -/
def windowEnabled (s : State) (w : Fin 8) : Bool :=
  match s.windows[w].record with
  | some r => r.enabled
  | none => false

/-- The window's timeout T; 0, which disables expiry, where no record is loaded (R78). -/
def windowTimeout (s : State) (w : Fin 8) : Nat :=
  match s.windows[w].record with
  | some r => r.timeout.toNat
  | none => 0

/-- The window's key-low threshold (R133). -/
def windowThreshold (s : State) (w : Fin 8) : Nat :=
  match s.windows[w].record with
  | some r => r.threshold.toNat
  | none => 0

/-- One window's entry replaced. -/
def setWindow (w : Fin 8) (x : Window) (s : State) : State :=
  { s with windows := s.windows.set w x }

/-- A whole burst of the window is blanked with a window blank cause (R53): the count, the last blank
cause, and the notice causes BLANKED and, for NO_KEY, NO_KEY. -/
def countBlank (w : Fin 8) (cause : BlankCause) (s : State) : State :=
  let x := s.windows[w]
  raiseNoticeWhen (cause == .noKey) .noKey <| raiseNotice .blanked <|
    setWindow w { x with blanked := satInc x.blanked, lastBlank := some cause } s

/-- An outcome counter rises (R52); the states of synthesized trailers count nothing. -/
def OutcomeCounts.bump (o : OutcomeCounts) : TrailerState → OutcomeCounts
  | .wrapped => { o with wrapped := satInc o.wrapped }
  | .short => { o with short := satInc o.short }
  | .torn => { o with torn := satInc o.torn }
  | .abandoned => { o with abandoned := satInc o.abandoned }
  | .expired => { o with expired := satInc o.expired }
  | .orphan => { o with orphan := satInc o.orphan }
  | .inProgress => o
  | .fault => o

/-- The window counts a composed trailer's state (R52). -/
def countOutcome (w : Fin 8) (t : TrailerState) (s : State) : State :=
  let x := s.windows[w]
  setWindow w { x with outcomes := x.outcomes.bump t } s

/-- The TAMPER freeze cause on every enabled window (R50), all other causes as they were. -/
def freezeForTamper (s : State) : State :=
  { s with
    windows := Vector.ofFn fun w : Fin 8 =>
      let x := s.windows[w]
      { x with freeze := { x.freeze with tamper := x.freeze.tamper || windowEnabled s w } } }

/-- TAMPER removed from every window's freeze-cause set (R50). -/
def thawTamper (s : State) : State :=
  { s with
    windows := Vector.ofFn fun w : Fin 8 =>
      let x := s.windows[w]
      { x with freeze := { x.freeze with tamper := false } } }

/-! ### Contexts and the expired list (section 4) -/

/-- The context is the one of a window and slot (R59). -/
def Context.isFor (c : Context) (w : Fin 8) (slot : Nat) : Bool :=
  c.window == w && c.slot == slot

/-- The entry is one of a window and slot (R77). -/
def ExpiredEntry.isFor (e : ExpiredEntry) (w : Fin 8) (slot : Nat) : Bool :=
  e.window == w && e.slot == slot

/-- Ascending order of window and then slot (R78). -/
def Context.before (c d : Context) : Bool :=
  decide (c.window < d.window) || (c.window == d.window && decide (c.slot < d.slot))

/-- The context of a window and slot (R59). -/
def findContext (cs : List Context) (w : Fin 8) (slot : Nat) : Option Context :=
  cs.find? fun c => c.isFor w slot

/-- A context joins the table at its place in the order of window and slot. -/
def insertContext (c : Context) : List Context → List Context
  | [] => [c]
  | d :: rest => if c.before d then c :: d :: rest else d :: insertContext c rest

/-- A context takes the place of the one of its window and slot. -/
def replaceContext (c : Context) (cs : List Context) : List Context :=
  cs.map fun d => if d.isFor c.window c.slot then c else d

/-- The context of a window and slot leaves the table. -/
def removeContext (w : Fin 8) (slot : Nat) (cs : List Context) : List Context :=
  cs.filter fun c => !c.isFor w slot

/-- The entry made of a context that ends without a close (R77). -/
def expiredEntryOf (c : Context) (cause : EndCause) (now : Tick) : ExpiredEntry :=
  { window := c.window, slot := c.slot, keyId := c.keyId, counter := c.counter,
    openTick := c.openTick, coverage := c.coverage, cause := cause, endTick := now }

/-- An entry is appended as the newest, the oldest discarded from a full list (R77). -/
def appendExpired (l : List ExpiredEntry) (e : ExpiredEntry) : List ExpiredEntry :=
  if l.length < Config.maxExpired then l ++ [e] else l.drop 1 ++ [e]

/-- Every context that a test picks ends without a close, in ascending order of window and slot
(R77 to R80). -/
def endContexts (picked : Context → Bool) (cause : EndCause) (s : State) : State :=
  { s with
    contexts := s.contexts.filter fun c => !picked c
    expired :=
      ((s.contexts.filter picked).map fun c => expiredEntryOf c cause s.time.ticks).foldl
        appendExpired s.expired }

/-- The newest entry for a window and slot (R76). -/
def newestEntry (l : List ExpiredEntry) (w : Fin 8) (slot : Nat) : Option ExpiredEntry :=
  l.reverse.find? fun e => e.isFor w slot

/-- The list without its newest entry for a window and slot, the others in their order (R84). -/
def withoutNewest (l : List ExpiredEntry) (w : Fin 8) (slot : Nat) : List ExpiredEntry :=
  (l.reverse.eraseP fun e => e.isFor w slot).reverse

/-- The open-context count of a window (R86). -/
def openContexts (s : State) (w : Fin 8) : Nat :=
  (s.contexts.filter fun c => c.window == w).length

/-! ### Key positions (section 8) -/

/-- Position A of a window (section 8). -/
def positionA (w : Fin 8) : Fin 16 := ⟨2 * w.val, by omega⟩

/-- Position B of a window (section 8). -/
def positionB (w : Fin 8) : Fin 16 := ⟨2 * w.val + 1, by omega⟩

/-- The window that owns a position (section 8). -/
def ownerWindow (p : Fin 16) : Fin 8 := ⟨p.val / 2, by omega⟩

/-- The other position of the same window (R135). -/
def partner (p : Fin 16) : Fin 16 :=
  if p.val % 2 = 0 then positionB (ownerWindow p) else positionA (ownerWindow p)

/-- One position's retained fields replaced; the store is written in the same event (R146). -/
def setPosition (p : Fin 16) (x : KeyPosition) (s : State) : State :=
  { s with store.positions := s.store.positions.set p x }

/-- One position's pool replaced. -/
def setPool (p : Fin 16) (l : List PoolEntry) (s : State) : State :=
  { s with pools := s.pools.set p l }

/-- The ACTIVE position of a window, if it has one (R135). -/
def activePosition (s : State) (w : Fin 8) : Option (Fin 16) :=
  if s.store.positions[positionA w].state = .active then some (positionA w)
  else if s.store.positions[positionB w].state = .active then some (positionB w)
  else none

/-- A position taken to EMPTY with its generation raised (R137, R149). -/
def emptied (x : KeyPosition) : KeyPosition :=
  { state := .empty, keyId := 0#64, baseKey := none, check := none, start := 0, limit := 0,
    next := 0, generation := x.generation + 1 }

/-- A position turned SPENT: no base key and no check value, identifier and counters kept, generation
raised (R134, R138). -/
def spentOf (x : KeyPosition) : KeyPosition :=
  { x with state := .spent, baseKey := none, check := none, generation := x.generation + 1 }

/-- A position holds a base key for use: READY or ACTIVE (R130). -/
def holdsKey (x : KeyPosition) : Bool := x.state == .ready || x.state == .active

/-- A refill for the position is in flight (R134, R140). -/
def refillInFlight (s : State) (p : Fin 16) : Bool :=
  match s.derivation.inFlight with
  | some (.refill q _ _ _) => q == p
  | _ => false

/-- The window's ACTIVE position, `p`, has left ACTIVE: its READY partner becomes ACTIVE, or NO_KEY is
raised for an enabled window (R135). -/
def rollover (p : Fin 16) (s : State) : State :=
  let q := s.store.positions[partner p]
  if q.state = .ready then setPosition (partner p) { q with state := .active } s
  else raiseNoticeWhen (windowEnabled s (ownerWindow p)) .noKey s

/-- The SPENT test of a position and what follows when it holds (R134). -/
def spentTest (p : Fin 16) (s : State) : State :=
  let x := s.store.positions[p]
  if holdsKey x && decide (x.limit < x.next) && s.pools[p].isEmpty && !refillInFlight s p then
    let s' := setPosition p (spentOf x) s
    if x.state = .active then rollover p s' else s'
  else s

/-- A position needs a refill (R140). -/
def needsRefill (s : State) (p : Fin 16) : Bool :=
  let x := s.store.positions[p]
  holdsKey x && windowEnabled s (ownerWindow p) && decide (s.pools[p].length < Config.poolDepth) &&
    decide (x.next ≤ x.limit) && !refillInFlight s p

/-- The position `k + 1` places after another, modulo 16 (R141). -/
def placesAfter (p : Fin 16) (k : Nat) : Fin 16 := ⟨(p.val + 1 + k) % 16, by omega⟩

/-- The first position after the pointer that needs a refill (R141). -/
def nextRefill (s : State) : Option (Fin 16) :=
  ((List.range 16).map (placesAfter s.derivation.pointer)).find? (needsRefill s)

/-- A refill is taken up: the counter N is reserved and N raised, the generation and a working copy
are recorded, and the pointer moves (R131, R141, R142). -/
def takeUpRefill (p : Fin 16) (s : State) : State :=
  let x := s.store.positions[p]
  { setPosition p { x with next := x.next + 1 } s with
    derivation :=
      { s.derivation with
        inFlight := some (.refill p x.next x.generation (some (x.baseKey.getD 0#128, x.keyId)))
        pointer := p } }

/-- The arbiter: with no operation in flight in ACTIVE, a pending key load goes first, then the refills
in turn (R139, R141). -/
def takeUpNext (s : State) : State :=
  if s.part.state = .active ∧ s.derivation.inFlight = none then
    match s.derivation.pendingLoad with
    | some (p, block) =>
      { s with derivation :=
          { s.derivation with inFlight := some (.unwrap p (some block)), pendingLoad := none } }
    | none =>
      match nextRefill s with
      | some p => takeUpRefill p s
      | none => s
  else s

/-! ### The held answer (section 12) -/

/-- The held answer becomes one without data. -/
def answer (code : AnswerCode) (echo : Byte) (s : State) : State :=
  { s with link.answer := { code := code, echo := echo, data := [] } }

/-- The held answer becomes OK with data. -/
def answerData (echo : Byte) (data : List Byte) (s : State) : State :=
  { s with link.answer := { code := .ok, echo := echo, data := data } }

/-- A key load is answered: the mark is cleared and the answer echoes 10h (R177). -/
def answerLoad (code : AnswerCode) (s : State) : State :=
  { s with link := { s.link with answer := { code := code, echo := 0x10#8, data := [] }, loadInProgress := false } }

/-! ### Tamper (10.4) -/

/-- Every position to EMPTY, every pool discarded (R149). -/
def emptyAllPositions (s : State) : State :=
  { s with
    store.positions := Vector.ofFn fun p : Fin 16 => emptied s.store.positions[p]
    pools := Vector.replicate 16 [] }

/-- The working copy of an operation cleared, which makes its result void (R127). -/
def voidOperation : Operation → Operation
  | .knownAnswer => .knownAnswer
  | .recompute p _ => .recompute p none
  | .refill p n g _ => .refill p n g none
  | .unwrap p _ => .unwrap p none

/-- The derivation unit at tamper: working copy cleared, a pending key load dropped (R127, R149). -/
def tamperDerivation (s : State) : State :=
  { s with derivation :=
      { s.derivation with inFlight := s.derivation.inFlight.map voidOperation, pendingLoad := none } }

/-- A pending key load is answered TAMPERED at the tamper (R149, R177). -/
def answerDroppedLoad (s : State) : State :=
  if s.derivation.pendingLoad.isSome then answerLoad .tampered s else s

/-- Tamper is taken (R162): TAMPER is raised, and with the latch clear the latch is set, keys, contexts
and working copies go, and every enabled window is frozen. -/
def takeTamper (s : State) : State :=
  let s := { raiseNotice .tamper s with part.tamperTaken := true }
  if s.store.latch then s
  else
    freezeForTamper <| endContexts (fun _ => true) .tamper <| emptyAllPositions <|
      tamperDerivation <| answerDroppedLoad { s with store.latch := true }

/-! ### The time base (section 9) -/

/-- The time base runs: the part has left LOADING and the reference clock is running (R152, R156). -/
def timeRuns (s : State) : Bool := s.part.state.afterLoading && s.inputs.clockRunning

/-- A context expires at the tick counter's present value (R78, R154). DESIGN CHOICE (log entry 27): with
T = 1 a context that was written in the current tick expires at the next one, as R78 and R154 count it,
where R81 says of the tick after a burst that the context lives. -/
def expiryDue (s : State) (c : Context) : Bool :=
  decide (0 < windowTimeout s c.window) &&
    decide (windowTimeout s c.window ≤ (s.time.ticks - c.lastWrite).toNat)

/-- A tick: the prescaler count returns to 0, the tick counter rises by 1, and every context that is
due expires (R78, R151). -/
def takeTick (s : State) : State :=
  let s := { s with time := { s.time with count := 0, ticks := s.time.ticks + 1 } }
  endContexts (expiryDue s) .timeout s

/-- One period of the reference clock (R151). DESIGN CHOICE (log entry 6): a step on an empty queue is
one such period. -/
def clockPeriod (s : State) : State :=
  if timeRuns s then
    if s.time.count + 1 < s.time.prescaler.getD Config.passOnlyPrescaler then
      { s with time.count := s.time.count + 1 }
    else takeTick s
  else s

end Sys2Proof.Machine
end

