-- ==== Sys2Proof/Machine/Trailers.lean ====
section
/-! DEFINITION. Trailers: their bytes, their composition at close and without a context, and the two
synthesized on a read (sections 4.4 and 5). -/

namespace Sys2Proof.Machine

/-! ### The bytes of a trailer (Table 13-3) -/

/-- The 64 bytes of a trailer (R88, Table 13-3). -/
def Trailer.bytes (t : Trailer) : List Byte :=
  [0x01#8, t.state.code, BitVec.ofNat 8 t.window.val, BitVec.ofNat 8 t.rejectCount.toNat] ++
    bytesBE 2 t.flags.toNat ++ bytesBE 2 t.slot ++ bytesBE 8 t.keyId.toNat ++
    bytesBE 4 t.counter.toNat ++ [t.digitCount, t.till, t.kind, t.declared] ++
    packNibbles t.masked ++ bytesBE 6 t.writerRef.toNat ++ bytesBE 4 t.openTick.toNat ++
    bytesBE 4 t.closeTick.toNat ++ bytesBE 4 t.coverage.toNat ++ bytesBE 4 t.wrapSeq.toNat ++
    bytesBE 8 t.tag.toNat

/-- Trailer beat `k`: bytes 8k to 8k + 7 (R33, R39). -/
def Trailer.beat (t : Trailer) (k : Nat) : List Byte := (t.bytes.drop (8 * k)).take 8

/-- The trailer's block `Qk`; with the tag field zero, Q3 ends in eight zero bytes (R95). -/
def Trailer.block (t : Trailer) (k : Nat) : Block :=
  blockOfBytes ((t.bytes.drop (16 * k)).take 16)

/-! ### Closing a context (4.4, 5.2) -/

/-- The context's position block of a block number (R121). -/
def Context.position (c : Context) (number : Nat) : Block :=
  positionBlock number c.window.val c.slot c.counter c.keyId

/-- The close state (R73). -/
def closeState (c : Context) (w : CloseWord) (capacity : Nat) : TrailerState :=
  if w.abandons then .abandoned
  else if c.torn then .torn
  else if (List.range (w.declared capacity)).any fun j => !c.coverage.getLsbD j then .short
  else .wrapped

/-- Some block at or above D is covered (R74). -/
def extraBlocks (c : Context) (declared : Nat) : Bool :=
  (List.range 32).any fun j => decide (declared ≤ j) && c.coverage.getLsbD j

/-- The flags that come from a context and its inspection result, whenever the trailer is composed
(R93, R99). -/
def contextFlags (c : Context) : BitVec 16 :=
  TrailerFlag.digitsUnreadable.when (c.inspection.any fun r => r.unreadable) |||
    TrailerFlag.checkDigitFail.when (c.inspection.any fun r => r.checkDigitFail) |||
    TrailerFlag.zeroFilled.when c.zeroFilled ||| TrailerFlag.keyLow.when c.keyLow

/-- The flags that come from the close word (R72). -/
def closeWordFlags (w : CloseWord) (capacity : Nat) : BitVec 16 :=
  TrailerFlag.lengthClamped.when (w.clamped capacity) |||
    TrailerFlag.closeCodeUnknown.when w.unknownCode

/-- The flags of a close (R74, R93). -/
def closeFlags (c : Context) (w : CloseWord) (capacity : Nat) : BitVec 16 :=
  TrailerFlag.descAbsent.when c.inspection.isNone ||| contextFlags c |||
    TrailerFlag.extraBlocks.when (extraBlocks c (w.declared capacity)) |||
    closeWordFlags w capacity

/-- The inspection fields of a trailer: those of the result, or the empty values (R92). -/
def inspectionShown (c : Context) : Inspection := c.inspection.getD uninspected

/-- Bytes 0 to 55 of the trailer of a close, the tag field zero (R90 steps 1 to 4, R91, R92). -/
def untaggedTrailer (c : Context) (w : CloseWord) (capacity : Nat) (now : Tick)
    (wrapSeq : BitVec 32) : Trailer :=
  { state := closeState c w capacity
    window := c.window
    rejectCount := c.rejectCount
    flags := closeFlags c w capacity
    slot := c.slot
    keyId := c.keyId
    counter := BitVec.ofNat 32 c.counter
    digitCount := (inspectionShown c).digitCount
    till := (inspectionShown c).till
    kind := (inspectionShown c).kind
    declared := BitVec.ofNat 8 (w.declared capacity)
    masked := (inspectionShown c).masked
    writerRef := w.writerRef
    openTick := c.openTick
    closeTick := now
    coverage := c.coverage
    wrapSeq := wrapSeq
    tag := 0#64 }

/-- The tag term of trailer block `Qk`, at position 32 + k (R95). -/
def trailerTerm (c : Context) (t : Trailer) (k : Nat) : Block :=
  tagTerm c.ak (t.block k) (c.position (32 + k))

/-- The finalised tag over a trailer whose tag field is zero (R95, R124). -/
def tagOver (c : Context) (t : Trailer) : BitVec 64 :=
  finalTag c.ak (c.tagSum ^^^ trailerTerm c t 0 ^^^ trailerTerm c t 1 ^^^ trailerTerm c t 2 ^^^
    trailerTerm c t 3)

/-- The trailer of a close; the tag is finalised for WRAPPED alone (R90 step 5). -/
def closeTrailer (c : Context) (w : CloseWord) (capacity : Nat) (now : Tick)
    (wrapSeq : BitVec 32) : Trailer :=
  let t := untaggedTrailer c w capacity now wrapSeq
  if t.state = .wrapped then { t with tag := tagOver c t } else t

/-- The wrap sequence after a close of a given state (R55). -/
def wrapSeqAfter (t : TrailerState) (wrapSeq : BitVec 32) : BitVec 32 :=
  if t = .wrapped then wrapSeq + 1 else wrapSeq

/-! ### Trailers without a context (5.4) -/

/-- The EXPIRED trailer of an entry (R96). -/
def expiredTrailer (e : ExpiredEntry) (w : CloseWord) (capacity : Nat) (wrapSeq : BitVec 32) :
    Trailer :=
  { state := .expired
    window := e.window
    rejectCount := 0#4
    flags := e.cause.flag.mask ||| closeWordFlags w capacity
    slot := e.slot
    keyId := e.keyId
    counter := BitVec.ofNat 32 e.counter
    digitCount := 0x00#8
    till := 0x00#8
    kind := 0x00#8
    declared := BitVec.ofNat 8 (w.declared capacity)
    masked := blankMasked
    writerRef := w.writerRef
    openTick := e.openTick
    closeTick := e.endTick
    coverage := e.coverage
    wrapSeq := wrapSeq
    tag := 0#64 }

/-- The ORPHAN trailer of a slot (R97). -/
def orphanTrailer (window : Fin 8) (slot : Nat) (w : CloseWord) (capacity : Nat) (now : Tick)
    (wrapSeq : BitVec 32) : Trailer :=
  { state := .orphan
    window := window
    rejectCount := 0#4
    flags := closeWordFlags w capacity
    slot := slot
    keyId := 0#64
    counter := 0xFFFFFFFF#32
    digitCount := 0x00#8
    till := 0x00#8
    kind := 0x00#8
    declared := BitVec.ofNat 8 (w.declared capacity)
    masked := blankMasked
    writerRef := w.writerRef
    openTick := 0#32
    closeTick := now
    coverage := 0#32
    wrapSeq := wrapSeq
    tag := 0#64 }

/-! ### Synthesized trailers (5.5) -/

/-- The IN_PROGRESS trailer of a context as it stands (R99). -/
def inProgressTrailer (s : State) (c : Context) : Trailer :=
  { state := .inProgress
    window := c.window
    rejectCount := c.rejectCount
    flags := contextFlags c
    slot := c.slot
    keyId := c.keyId
    counter := BitVec.ofNat 32 c.counter
    digitCount := (inspectionShown c).digitCount
    till := (inspectionShown c).till
    kind := (inspectionShown c).kind
    declared := 0x00#8
    masked := (inspectionShown c).masked
    writerRef := 0#48
    openTick := c.openTick
    closeTick := 0#32
    coverage := c.coverage
    wrapSeq := s.store.wrapSeq[c.window]
    tag := 0#64 }

/-- The FAULT trailer of a slot (R100). -/
def faultTrailer (window : Fin 8) (slot : Nat) : Trailer :=
  { state := .fault
    window := window
    rejectCount := 0#4
    flags := 0#16
    slot := slot
    keyId := 0#64
    counter := 0#32
    digitCount := 0x00#8
    till := 0x00#8
    kind := 0x00#8
    declared := 0x00#8
    masked := List.replicate 20 0x0#4
    writerRef := 0#48
    openTick := 0#32
    closeTick := 0#32
    coverage := 0#32
    wrapSeq := 0#32
    tag := 0#64 }

end Sys2Proof.Machine
end

