-- ==== Sys2Proof/Machine/Channel.lean ====
section
/-! DEFINITION. The commands of the channel: what the command tracker takes from each (section 1). -/

namespace Sys2Proof.Machine

/-! ### Taking commands -/

/-- The tracker takes commands: the part has left LOADING, the memory controller's reset line is not
asserted, and the tracker is in TRACKING (R17, R20, R21). -/
def takesCommands (s : State) : Bool :=
  s.part.state.afterLoading && !s.inputs.controllerReset && s.tracker.state == .tracking

/-- A command fails the parity check: every bank closes, PARITY RECOVERY is entered, and the write path
counts the failure and records PARITY_FAIL (R16). -/
def parityFailure (s : State) : State :=
  addAlert .parityFail
    { s with
      tracker := { s.tracker with banks := Vector.replicate 16 .closed, state := .parityRecovery }
      writePath.parityFails := satInc s.writePath.parityFails }

/-- A command of the channel: forwarded in every case (R1), then taken, or not taken and handled as
`untaken`; with command parity on it is checked first (R16). -/
def channelCommand (c : Instr) (parityOk : Bool) (taken untaken : State → State) (s : State) : State :=
  let s := { s with ports.dramCommand := some c }
  if takesCommands s then
    if s.tracker.mode.commandParity && !parityOk then untaken (parityFailure s) else taken s
  else untaken s

/-- A command from which nothing is taken (Table 1-1). -/
def inertCommand (c : Instr) (parityOk : Bool) (s : State) : State :=
  channelCommand c parityOk id id s

/-! ### The bank table -/

/-- ROW OPEN taken (R4). -/
def openRow (i : Fin 16) (row : BitVec 16) (s : State) : State :=
  { s with
    tracker :=
      { s.tracker with
        banks := s.tracker.banks.set i (.opened row)
        rowReopen :=
          if s.tracker.banks[i] = .closed then s.tracker.rowReopen
          else satInc s.tracker.rowReopen } }

/-- One entry becomes CLOSED (R5, R6). -/
def closeBank (i : Fin 16) (s : State) : State :=
  { s with tracker.banks := s.tracker.banks.set i .closed }

/-- Every entry becomes CLOSED (R5). -/
def closeAllBanks (s : State) : State :=
  { s with tracker.banks := Vector.replicate 16 .closed }

/-- Some entry of the bank table is OPEN (R7). -/
def anyBankOpen (s : State) : Bool :=
  (List.finRange 16).any fun i => s.tracker.banks[i] != .closed

/-- REFRESH and SELF-REFRESH ENTRY taken (R7). -/
def refreshBanks (s : State) : State :=
  { s with
    tracker :=
      { s.tracker with
        banks := Vector.replicate 16 .closed
        refreshWithOpen :=
          if anyBankOpen s then satInc s.tracker.refreshWithOpen else s.tracker.refreshWithOpen } }

/-! ### READ and WRITE -/

/-- The place of a READ or WRITE that is taken, from the bank's entry (R6). -/
def burstPlace (s : State) (i : Fin 16) (column : BitVec 10) : LinePlace :=
  match s.tracker.banks[i] with
  | .opened row => .at (foldLine row i column)
  | .closed => .absent .closedBank

/-- CLOSED_BANK_ACCESS rises when the bank is CLOSED (R6, R18). -/
def countClosedAccess (i : Fin 16) (s : State) : State :=
  if s.tracker.banks[i] = .closed then
    { s with tracker.closedBankAccess := satInc s.tracker.closedBankAccess }
  else s

/-- The synthesized trailer that answers a READ, composed as the READ is taken (R37, R38, R101). -/
def synthesizedFor (s : State) (place : LinePlace) : Option Trailer :=
  match place with
  | .absent _ => none
  | .at line =>
    match placeLine s line with
    | none => none
    | some pl =>
      if pl.isTrailer then
        match s.part.state with
        | .active => (findContext s.contexts pl.window pl.slot).map (inProgressTrailer s)
        | .fault => some (faultTrailer pl.window pl.slot)
        | _ => none
      else none

/-- A WRITE description is handed to the write path (R2). -/
def handWrite (place : LinePlace) (column : BitVec 10) (chop : Bool) (s : State) : State :=
  let d := describe s.tracker.mode place (burstExtent s.tracker.mode.burstMode column chop)
  { s with writePath.awaiting := s.writePath.awaiting ++ [d] }

/-- A READ description is handed to the read path (R2). -/
def handRead (place : LinePlace) (column : BitVec 10) (chop : Bool) (s : State) : State :=
  let d := describe s.tracker.mode place (burstExtent s.tracker.mode.burstMode column chop)
  { s with
    reads := s.reads ++
      [{ burst := d, startBeat := column.extractLsb' 0 3, order := s.tracker.mode.burstOrder,
         answer := synthesizedFor s place }] }

/-- The bank is closed after the description when the command carries auto-close (R6). -/
def closeWhen (autoClose : Bool) (i : Fin 16) (s : State) : State :=
  if autoClose then closeBank i s else s

/-! ### The meanings -/

/-- ROW OPEN (R4). -/
def execRowOpen (group bank : BitVec 2) (row : BitVec 16) (parityOk : Bool) (s : State) :
    Host.Outcome State Fault Refusal :=
  .next (channelCommand (.rowOpen group bank row parityOk) parityOk
    (openRow (bankIndex group bank) row) id s)

/-- BANK CLOSE (R5). -/
def execBankClose (group bank : BitVec 2) (parityOk : Bool) (s : State) :
    Host.Outcome State Fault Refusal :=
  .next (channelCommand (.bankClose group bank parityOk) parityOk
    (closeBank (bankIndex group bank)) id s)

/-- CLOSE ALL (R5). -/
def execCloseAll (parityOk : Bool) (s : State) : Host.Outcome State Fault Refusal :=
  .next (channelCommand (.closeAll parityOk) parityOk closeAllBanks id s)

/-- WRITE (R6). -/
def execWrite (group bank : BitVec 2) (column : BitVec 10) (autoClose chop parityOk : Bool)
    (s : State) : Host.Outcome State Fault Refusal :=
  let i := bankIndex group bank
  .next (channelCommand (.write group bank column autoClose chop parityOk) parityOk
    (fun s =>
      closeWhen autoClose i (handWrite (burstPlace s i column) column chop (countClosedAccess i s)))
    (handWrite (.absent .untracked) column chop) s)

/-- READ (R6). -/
def execRead (group bank : BitVec 2) (column : BitVec 10) (autoClose chop parityOk : Bool)
    (s : State) : Host.Outcome State Fault Refusal :=
  let i := bankIndex group bank
  .next (channelCommand (.read group bank column autoClose chop parityOk) parityOk
    (fun s =>
      closeWhen autoClose i (handRead (burstPlace s i column) column chop (countClosedAccess i s)))
    (handRead (.absent .untracked) column chop) s)

/-- REFRESH (R7). -/
def execRefresh (parityOk : Bool) (s : State) : Host.Outcome State Fault Refusal :=
  .next (channelCommand (.refresh parityOk) parityOk refreshBanks id s)

/-- SELF-REFRESH ENTRY, treated as REFRESH (R7). -/
def execSelfRefreshEntry (parityOk : Bool) (s : State) : Host.Outcome State Fault Refusal :=
  .next (channelCommand (.selfRefreshEntry parityOk) parityOk refreshBanks id s)

/-- SELF-REFRESH EXIT (R7). -/
def execSelfRefreshExit (parityOk : Bool) (s : State) : Host.Outcome State Fault Refusal :=
  .next (inertCommand (.selfRefreshExit parityOk) parityOk s)

/-- POWER-DOWN ENTRY (R7). -/
def execPowerDownEntry (parityOk : Bool) (s : State) : Host.Outcome State Fault Refusal :=
  .next (inertCommand (.powerDownEntry parityOk) parityOk s)

/-- POWER-DOWN EXIT (R7). -/
def execPowerDownExit (parityOk : Bool) (s : State) : Host.Outcome State Fault Refusal :=
  .next (inertCommand (.powerDownExit parityOk) parityOk s)

/-- MODE SET (R9). -/
def execModeSet (group bank : BitVec 2) (address : BitVec 18) (parityOk : Bool) (s : State) :
    Host.Outcome State Fault Refusal :=
  .next (channelCommand (.modeSet group bank address parityOk) parityOk
    (fun s => { s with tracker.mode := modeAfter s.tracker.mode (modeWord group bank) address })
    id s)

/-- CALIBRATE (Table 1-1). -/
def execCalibrate (parityOk : Bool) (s : State) : Host.Outcome State Fault Refusal :=
  .next (inertCommand (.calibrate parityOk) parityOk s)

/-- NO OPERATION (Table 1-1). -/
def execNoOperation (parityOk : Bool) (s : State) : Host.Outcome State Fault Refusal :=
  .next (inertCommand (.noOperation parityOk) parityOk s)

/-- DESELECT (Table 1-1). -/
def execDeselect (parityOk : Bool) (s : State) : Host.Outcome State Fault Refusal :=
  .next (inertCommand (.deselect parityOk) parityOk s)

/-! ### Channel reset (1.8) -/

/-- The reset line of the memory controller becomes asserted; after LOADING it is a channel reset
(R20, R21, R42, R79). -/
def execChannelReset (s : State) : Host.Outcome State Fault Refusal :=
  .next <|
    if s.inputs.controllerReset then s
    else
      let s := { s with inputs.controllerReset := true }
      if s.part.state.afterLoading then
        endContexts (fun _ => true) .channelReset
          { s with
            tracker :=
              { s.tracker with
                banks := Vector.replicate 16 .closed, mode := ModeRecord.reset, state := .tracking }
            writePath.ownAlert := false }
      else s

/-- The reset line of the memory controller is deasserted (R20). -/
def execChannelResetRelease (s : State) : Host.Outcome State Fault Refusal :=
  .next { s with inputs.controllerReset := false }

end Sys2Proof.Machine
end

