-- ==== Sys2Proof/Machine/Bursts.lean ====
section
/-! DEFINITION. The data bursts: classifying a write burst, check failures and blanks, body bursts taken
by the context table, trailer-line bursts, and read data (sections 2, 4 and 5). -/

namespace Sys2Proof.Machine

/-! ### Forwarding -/

/-- A write burst leaves for the DRAM. -/
def forward (b : WireBurst) (s : State) : State := { s with ports.dramWrite := some b }

/-- A whole burst blanked: zeros in the form of R28, with correct codes (R30, R31). -/
def blankBurst (d : BurstDesc) : WireBurst := composedBurst d (zeroBeats d) false

/-- The burst of a check failure: zeros with complemented codes (R26). -/
def rejectedBurst (d : BurstDesc) : WireBurst := composedBurst d (zeroBeats d) true

/-! ### Classifying (2.2) -/

/-- The treatments of a write burst (R22). -/
inductive Treatment where
  | unchanged
  | closedBank
  | body (placement : Placement)
  | trailer (placement : Placement)
  deriving DecidableEq, Repr

/-- No burst is tracked: the part is in RESET or LOADING, or the memory controller holds channel reset
(R22). -/
def untrackedNow (s : State) : Bool := !s.part.state.afterLoading || s.inputs.controllerReset

/-- The treatment of a burst whose line the window table has answered for (R22). -/
def treatmentOf : Option Placement → Treatment
  | none => .unchanged
  | some pl => if pl.isTrailer then .trailer pl else .body pl

/-- The treatment of a write burst (R22). -/
def classify (s : State) (d : BurstDesc) : Treatment :=
  if untrackedNow s || s.part.state == .passOnly then .unchanged
  else
    match d.place with
    | .absent .untracked => .unchanged
    | .absent .closedBank => .closedBank
    | .at line => treatmentOf (placeLine s line)

/-! ### Check failures and refusals -/

/-- The check-code reject count of the slot's context rises, if it has one (R70). -/
def countReject (w : Fin 8) (slot : Nat) (s : State) : State :=
  { s with
    contexts := s.contexts.map fun c =>
      if c.isFor w slot then { c with rejectCount := satInc c.rejectCount } else c }

/-- A capture burst fails its write check (R26). -/
def checkFailure (d : BurstDesc) (pl : Placement) (s : State) : State :=
  countReject pl.window pl.slot <| addAlert .checkFail <| forward (rejectedBurst d)
    { s with
      writePath :=
        { s.writePath with
          checkFails := satInc s.writePath.checkFails
          ownAlert := true
          pulses := s.writePath.pulses + 1 } }

/-- A capture burst blanked whole with a window blank cause (R31, R53, R61). -/
def refuseBurst (d : BurstDesc) (w : Fin 8) (cause : BlankCause) (s : State) : State :=
  forward (blankBurst d) (countBlank w cause s)

/-! ### Opening a context (4.2) -/

/-- The opening tests in order: the blank cause, or the ACTIVE position with its pool head (R60). -/
def openingTests (s : State) (w : Fin 8) : Except BlankCause (Fin 16 × PoolEntry) :=
  if s.part.state ≠ .active then .error .fault
  else if s.windows[w].freeze.frozen then .error .frozen
  else
    match activePosition s w with
    | none => .error .noKey
    | some p =>
      match s.pools[p] with
      | [] => .error .starved
      | e :: _ => if Config.maxContexts ≤ s.contexts.length then .error .full else .ok (p, e)

/-- The pool head leaves (R132). -/
def removeHead (p : Fin 16) (s : State) : State := setPool p (s.pools[p].drop 1) s

/-- The position's remaining count R (R133). -/
def remainingCount (s : State) (p : Fin 16) : Nat :=
  let x := s.store.positions[p]
  (x.limit + 1 - x.next) + s.pools[p].length + (if refillInFlight s p then 1 else 0)

/-- The key-low answer after the removal of a pool head (R133). -/
def keyLowAnswer (s : State) (p : Fin 16) : Bool :=
  decide (remainingCount s p < windowThreshold s (ownerWindow p))

/-- The context that opens with a pool entry (R62, Table 4-1). -/
def newContext (s : State) (w : Fin 8) (slot : Nat) (p : Fin 16) (e : PoolEntry) (keyLow : Bool) :
    Context :=
  { window := w, slot := slot, keyId := s.store.positions[p].keyId, counter := e.counter,
    ek := e.ek, ak := e.ak, coverage := 0#32, tagSum := 0#128, torn := false,
    zeroFilled := false, keyLow := keyLow, rejectCount := 0#4, inspection := none,
    openTick := s.time.ticks, lastWrite := s.time.ticks }

/-! ### Taking body blocks (4.3) -/

/-- The window's inspection setting (R104). -/
def windowInspects (s : State) (w : Fin 8) : Bool :=
  match s.windows[w].record with
  | some r => r.inspection
  | none => false

/-- One body block taken into a context, and the block returned to the write path: enciphered when it
is not covered (R66, R69), blanked as a rewrite when it is (R67). -/
def takeBlock (inspect : Bool) (c : Context) (b : BodyBlock) : Context × Block :=
  if c.coverage.getLsbD b.number then ({ c with torn := true }, 0#128)
  else
    ({ c with
        coverage := c.coverage ||| (1#32 <<< b.number)
        tagSum := c.tagSum ^^^ tagTerm c.ak b.plain (c.position b.number)
        zeroFilled := c.zeroFilled || b.zeroFilled
        inspection := if b.number = 0 then some (inspectionOf inspect b.plain) else c.inspection },
      b.plain ^^^ keystream c.ek (c.position b.number))

/-- The blocks of one burst taken into a context, with the blocks returned (R66, R67). -/
def takeBlocks (inspect : Bool) (c : Context) : List BodyBlock → Context × List Block
  | [] => (c, [])
  | b :: rest =>
    let r := takeBlock inspect c b
    let r' := takeBlocks inspect r.1 rest
    (r'.1, r.2 :: r'.2)

/-- Some block of the burst is not covered and so is enciphered (R68). -/
def enciphersSome (c : Context) (blocks : List BodyBlock) : Bool :=
  blocks.any fun b => !c.coverage.getLsbD b.number

/-- A burst taken into a context: the context after it and the blocks returned (R66 to R68). -/
def takeBurst (inspect : Bool) (now : Tick) (c : Context) (blocks : List BodyBlock) :
    Context × List Block :=
  let r := takeBlocks inspect c blocks
  ({ r.1 with lastWrite := if enciphersSome c blocks then now else c.lastWrite }, r.2)

/-- The burst of returned blocks, as it leaves for the DRAM (R28, R32). -/
def returnedBurst (d : BurstDesc) (blocks : List Block) : WireBurst :=
  composedBurst d (blocks.flatMap blockBeats) false

/-- A body burst for a slot with a context (4.3). -/
def bodyIntoContext (d : BurstDesc) (burst : WireBurst) (pl : Placement) (c : Context) (s : State) :
    State :=
  let r := takeBurst (windowInspects s pl.window) s.time.ticks c (bodyBlocks d burst pl.pos)
  forward (returnedBurst d r.2) { s with contexts := replaceContext r.1 s.contexts }

/-- A body burst that opens a context with the head of a pool (R62, R63), and what the removal of the
head brings about in the key table and the derivation unit (R134, R135, R141). -/
def bodyOpensContext (d : BurstDesc) (burst : WireBurst) (pl : Placement) (p : Fin 16)
    (e : PoolEntry) (s : State) : State :=
  let drawn := removeHead p s
  let low := keyLowAnswer drawn p
  let c := newContext s pl.window pl.slot p e low
  let r := takeBurst (windowInspects s pl.window) s.time.ticks c (bodyBlocks d burst pl.pos)
  forward (returnedBurst d r.2) <| takeUpNext <| spentTest p <| raiseNoticeWhen low .keyLow
    { drawn with
      contexts := insertContext r.1 drawn.contexts
      expired := drawn.expired.filter fun x => !x.isFor pl.window pl.slot }

/-- A capture body burst that has passed its check (R23, R32, R60). -/
def bodyBurst (d : BurstDesc) (burst : WireBurst) (pl : Placement) (s : State) : State :=
  if s.part.state ≠ .active then refuseBurst d pl.window .fault s
  else
    match findContext s.contexts pl.window pl.slot with
    | some c => bodyIntoContext d burst pl c s
    | none =>
      match openingTests s pl.window with
      | .error cause => refuseBurst d pl.window cause s
      | .ok (p, e) => bodyOpensContext d burst pl p e s

/-! ### Trailer-line bursts (2.7, 4.4) -/

/-- The beats of a composed trailer that the forwarded burst carries (R33, R34). -/
def trailerBeats (e : Extent) (t : Trailer) : List (List Byte) :=
  (List.range e.beats).map fun k => t.beat (e.firstBeat + k)

/-- A composed trailer leaves for the DRAM and its state is counted (R33, R34, R52). -/
def sendTrailer (d : BurstDesc) (t : Trailer) (s : State) : State :=
  forward (composedBurst d (trailerBeats d.extent t) false) (countOutcome t.window t.state s)

/-- A trailer-line burst closes a context (R72 to R75, R90). -/
def closeContext (d : BurstDesc) (w : CloseWord) (pl : Placement) (c : Context) (s : State) : State :=
  let capacity := pl.record.capacity
  let seq := wrapSeqAfter (closeState c w capacity) s.store.wrapSeq[pl.window]
  sendTrailer d (closeTrailer c w capacity s.time.ticks seq)
    { s with
      contexts := removeContext pl.window pl.slot s.contexts
      store.wrapSeq := s.store.wrapSeq.set pl.window seq }

/-- A trailer-line burst for a slot without a context (R76, R96, R97). -/
def closeWithoutContext (d : BurstDesc) (w : CloseWord) (pl : Placement) (s : State) : State :=
  let seq := s.store.wrapSeq[pl.window]
  match newestEntry s.expired pl.window pl.slot with
  | some e =>
    sendTrailer d (expiredTrailer e w pl.record.capacity seq)
      { s with expired := withoutNewest s.expired pl.window pl.slot }
  | none =>
    sendTrailer d (orphanTrailer pl.window pl.slot w pl.record.capacity s.time.ticks seq) s

/-- A capture trailer burst that has passed its check (R23, R33 to R35). -/
def trailerBurst (d : BurstDesc) (burst : WireBurst) (pl : Placement) (s : State) : State :=
  if s.part.state ≠ .active then refuseBurst d pl.window .fault s
  else
    let w := deliveredCloseWord d burst
    match findContext s.contexts pl.window pl.slot with
    | some c => closeContext d w pl c s
    | none => closeWithoutContext d w pl s

/-! ### The meanings -/

/-- A write burst handled under its description (R22 to R35). -/
def handleWriteBurst (d : BurstDesc) (burst : WireBurst) (s : State) : State :=
  match classify s d with
  | .unchanged => forward burst s
  | .closedBank => forward (blankBurst d) s
  | .body pl => if passesCheck d burst then bodyBurst d burst pl s else checkFailure d pl s
  | .trailer pl => if passesCheck d burst then trailerBurst d burst pl s else checkFailure d pl s

/-- The data of a write burst arrives for the oldest description handed on (R22). Data without a
description is forwarded unchanged (log entry 9). -/
def execWriteDataBurst (burst : WireBurst) (s : State) : Host.Outcome State Fault Refusal :=
  .next <|
    match s.writePath.awaiting with
    | [] => forward burst s
    | d :: rest => handleWriteBurst d burst { s with writePath.awaiting := rest }

/-- The beats of a synthesized trailer in the READ's beat order, inverted where read inversion asks for
it (R39). -/
def synthesizedBeats (d : ReadDesc) (t : Trailer) : List Beat :=
  (List.range d.burst.extent.beats).map fun k =>
    (t.beat (readBeat d.burst.extent d.order d.startBeat.toNat k)).map
      (sentByte d.burst.readInversion)

/-- What the memory controller receives for a READ (R36 to R38). -/
def readAnswered (d : ReadDesc) (beats : List Beat) : List Beat :=
  match d.answer with
  | none => beats
  | some t => synthesizedBeats d t

/-- Read data arrives from the DRAM for the oldest READ description (R36). Data without a description
passes unchanged (log entry 9). -/
def execReadDataBurst (beats : List Beat) (s : State) : Host.Outcome State Fault Refusal :=
  .next <|
    match s.reads with
    | [] => { s with ports.readData := some beats }
    | d :: rest => { s with reads := rest, ports.readData := some (readAnswered d beats) }

/-! ### The alert line (2.9) -/

/-- An assertion of the DRAM-side alert input is judged (R42): in RESET and LOADING it is not; in PARITY
RECOVERY or with the own-alert flag set it is the part's own; any other adds DRAM_ALERT. -/
def judgeAssertion (s : State) : State :=
  if !s.part.state.afterLoading then s
  else if s.tracker.state = .parityRecovery ∨ s.writePath.ownAlert = true then
    { s with writePath.ownAlert := false }
  else addAlert .dramAlert s

/-- An assertion of the DRAM-side alert input begins (R42). -/
def execDramAlertAssertion (s : State) : Host.Outcome State Fault Refusal :=
  .next <|
    if s.inputs.dramAlert then s
    else judgeAssertion { s with inputs.dramAlert := true }

/-- The DRAM-side alert input is deasserted, which ends PARITY RECOVERY (R17). -/
def execDramAlertDeassertion (s : State) : Host.Outcome State Fault Refusal :=
  .next <|
    if s.inputs.dramAlert then
      { s with inputs.dramAlert := false, tracker.state := .tracking }
    else s

/-- The pulse of one check failure ends (R40). -/
def execCheckFailurePulseEnd (s : State) : Host.Outcome State Fault Refusal :=
  .next { s with writePath.pulses := s.writePath.pulses - 1 }

end Sys2Proof.Machine
end

