-- ==== Sys2Proof/Machine/Keys.lean ====
section
/-! DEFINITION. Completions in the derivation unit, and tamper (sections 8.4, 8.5, 8.7 and 10.4). -/

namespace Sys2Proof.Machine

/-! ### Refill completion (R143) -/

/-- The result of a refill is accepted: the generation still matches and the position is READY or
ACTIVE (R143). -/
def refillAccepted (s : State) (p : Fin 16) (generation : BitVec 32) : Bool :=
  s.store.positions[p].generation == generation && holdsKey s.store.positions[p]

/-- The entry that a refill derived joins the pool, or is discarded; a void result is discarded
(R127, R132, R143). -/
def applyRefill (p : Fin 16) (counter : Nat) (generation : BitVec 32) (key : Option (Block × KeyId))
    (s : State) : State :=
  match key with
  | none => s
  | some (baseKey, keyId) =>
    if refillAccepted s p generation then
      let pair := derivePair baseKey keyId counter
      setPool p (s.pools[p] ++ [{ counter := counter, ek := pair.1, ak := pair.2 }]) s
    else s

/-- A refill completes (R143, R134, R141). -/
def execRefillCompletion (s : State) : Host.Outcome State Fault Refusal :=
  .next <|
    match s.derivation.inFlight with
    | some (.refill p counter generation key) =>
      takeUpNext <| spentTest p <| applyRefill p counter generation key
        { s with derivation.inFlight := none }
    | _ => s

/-! ### Key-load unwrap completion (R136) -/

/-- The retained fields of a position loaded from a key block (R136). -/
def loadedPosition (x : KeyPosition) (block : KeyBlock) (baseKey : Block) (state : KeyState) :
    KeyPosition :=
  { state := state, keyId := block.keyId, baseKey := some baseKey, check := some block.check,
    start := block.start.toNat, limit := block.limit.toNat, next := block.start.toNat,
    generation := x.generation + 1 }

/-- The key table loads a position: ACTIVE when its window has no ACTIVE position, else READY (R136). -/
def loadPosition (p : Fin 16) (block : KeyBlock) (baseKey : Block) (s : State) : State :=
  let state : KeyState := if activePosition s (ownerWindow p) = none then .active else .ready
  setPool p [] (setPosition p (loadedPosition s.store.positions[p] block baseKey state) s)

/-- The outcome of a completed unwrap, in the order of R136. -/
def judgeLoad (p : Fin 16) (block : Option KeyBlock) (s : State) : State :=
  match block with
  | none => answerLoad .tampered s
  | some b =>
    let baseKey := transportUnwrap s.transportKey b.enciphered
    if checkValue baseKey ≠ b.check then answerLoad .badCheck s
    else if s.store.positions[p].state = .active then answerLoad .positionActive s
    else answerLoad .ok (loadPosition p b baseKey s)

/-- A key-load unwrap completes (R136, R141). -/
def execKeyLoadUnwrapCompletion (s : State) : Host.Outcome State Fault Refusal :=
  .next <|
    match s.derivation.inFlight with
    | some (.unwrap p block) =>
      takeUpNext (judgeLoad p block { s with derivation.inFlight := none })
    | _ => s

/-! ### The tamper line -/

/-- The tamper line changes to active; outside RESET, where it is not watched, tamper is taken
(R158, R162). -/
def execTamper (s : State) : Host.Outcome State Fault Refusal :=
  .next <|
    if s.inputs.tamperLine then s
    else
      let s := { s with inputs.tamperLine := true }
      if s.part.state = .reset then s else takeTamper s

/-- The tamper line changes to inactive (R162). -/
def execTamperLineInactive (s : State) : Host.Outcome State Fault Refusal :=
  .next { s with inputs.tamperLine := false }

end Sys2Proof.Machine
end

