-- ==== Sys2Proof/Machine/Frames.lean ====
section
/-! DEFINITION. The write frames of the management link: the bytes of each command's frame, and the
command that a frame's bytes name (R174, R175, Tables 12-1 and 13-5). -/

namespace Sys2Proof.Machine

/-- The parameter length that Table 12-1 gives for a command code. -/
def parameterLength (code : Byte) : Option Nat :=
  match code with
  | 0x01#8 => some 0
  | 0x02#8 => some 1
  | 0x03#8 => some 1
  | 0x10#8 => some 37
  | 0x11#8 => some 1
  | 0x12#8 => some 1
  | 0x20#8 => some 1
  | 0x21#8 => some 1
  | 0x30#8 => some 1
  | 0x31#8 => some 0
  | 0x32#8 => some 0
  | _ => none

/-- A frame passes R175: a known code, the declared length of Table 12-1, and that many parameters. -/
def frameAccepted : List Byte → Bool
  | code :: declared :: params =>
    parameterLength code == some declared.toNat && params.length == declared.toNat
  | _ => false

/-- The 36 bytes of a key block (Table 13-5). -/
def keyBlockBytes (b : KeyBlock) : List Byte :=
  bytesBE 8 b.keyId.toNat ++ bytesBE 4 b.start.toNat ++ bytesBE 4 b.limit.toNat ++
    bytesBE 16 b.enciphered.toNat ++ bytesBE 3 b.check.toNat ++ [b.unread]

/-- The key block that 36 bytes hold (Table 13-5). -/
def keyBlockOf (bytes : List Byte) : KeyBlock :=
  { keyId := BitVec.ofNat 64 (fieldBE bytes 0 8)
    start := BitVec.ofNat 32 (fieldBE bytes 8 4)
    limit := BitVec.ofNat 32 (fieldBE bytes 12 4)
    enciphered := BitVec.ofNat 128 (fieldBE bytes 16 16)
    check := BitVec.ofNat 24 (fieldBE bytes 32 3)
    unread := byteAt bytes 35 }

/-- The bytes of a management command's write frame (R174, Table 12-1); a frame that fails R175 is its
own bytes, and a step that is no frame has none. -/
def frameBytes : Instr → Option (List Byte)
  | .status => some [0x01#8, 0x00#8]
  | .windowStatus w => some [0x02#8, 0x01#8, w]
  | .keyStatus p => some [0x03#8, 0x01#8, p]
  | .keyLoad p b => some (0x10#8 :: 0x25#8 :: p :: keyBlockBytes b)
  | .keyErase p => some [0x11#8, 0x01#8, p]
  | .keySwitch w => some [0x12#8, 0x01#8, w]
  | .freeze w => some [0x20#8, 0x01#8, w]
  | .thaw w => some [0x21#8, 0x01#8, w]
  | .noticeAck causes => some [0x30#8, 0x01#8, causes]
  | .alertClear => some [0x31#8, 0x00#8]
  | .tamperClear => some [0x32#8, 0x00#8]
  | .badFrame bytes => some bytes
  | _ => none

/-- The command that an accepted frame's code and parameters name (Table 12-1). -/
def commandNamed (code : Byte) (params : List Byte) : Option Instr :=
  let first := byteAt params 0
  match code with
  | 0x01#8 => some .status
  | 0x02#8 => some (.windowStatus first)
  | 0x03#8 => some (.keyStatus first)
  | 0x10#8 => some (.keyLoad first (keyBlockOf (params.drop 1)))
  | 0x11#8 => some (.keyErase first)
  | 0x12#8 => some (.keySwitch first)
  | 0x20#8 => some (.freeze first)
  | 0x21#8 => some (.thaw first)
  | 0x30#8 => some (.noticeAck first)
  | 0x31#8 => some .alertClear
  | 0x32#8 => some .tamperClear
  | _ => none

/-- The step that a write frame's bytes are: the command they name, or BAD_FRAME (R175); a write
transaction without a byte after the address is no frame (R174). -/
def commandOfFrame : List Byte → Option Instr
  | [] => none
  | code :: rest =>
    if frameAccepted (code :: rest) then commandNamed code (rest.drop 1)
    else some (.badFrame (code :: rest))

end Sys2Proof.Machine
end

