-- ==== Sys2Proof/Machine/Management.lean ====
section
/-! DEFINITION. The management link's commands (section 12). -/

namespace Sys2Proof.Machine

/-! ### Frames and their tests -/

/-- The link acknowledges 36h: the part is not in RESET (R174) and the reference clock, from which the
link runs, is running (R156). -/
def linkAnswers (s : State) : Bool := s.part.state != .reset && s.inputs.clockRunning

/-- The part's device address on the management link (R174). -/
def linkAddress : BitVec 7 := 0x36#7

/-- What a read transaction of `n` bytes returns: code, echo, data length, data, then FFh; `none` when
it is not acknowledged (R174). A read changes nothing. -/
def readTransaction (s : State) (address : BitVec 7) (n : Nat) : Option (List Byte) :=
  if linkAnswers s && address == linkAddress then
    let a := s.link.answer
    let held := a.code.code :: a.echo :: BitVec.ofNat 8 a.data.length :: a.data
    some ((held ++ List.replicate n 0xFF#8).take n)
  else none

/-- The step that a write transaction is: the frame its bytes are, at the part's address (R174). -/
def writeTransaction (address : BitVec 7) (bytes : List Byte) : Option Instr :=
  if address = linkAddress then commandOfFrame bytes else none

/-- A write frame ends: unacknowledged it changes nothing (R174); while a key load is in progress it is
answered BUSY (R177); otherwise it is tested and carried out. The frame being received is then at its
end. -/
def frameEnds (code : Byte) (carry : State → State) (s : State) : State :=
  if linkAnswers s then
    let s := { s with link.frame := [] }
    if s.link.loadInProgress then answer .busy code s else carry s
  else s

/-- The part state test of R178: NOT_ACTIVE outside the states of Table 12-3. -/
def whenPermitted (permitted : PartState → Bool) (code : Byte) (carry : State → State) (s : State) :
    State :=
  if permitted s.part.state then carry s else answer .notActive code s

/-- The range test of a window number (R178). -/
def onWindow (w : Byte) (code : Byte) (carry : Fin 8 → State → State) (s : State) : State :=
  if h : w.toNat < 8 then carry ⟨w.toNat, h⟩ s else answer .badParam code s

/-- The range test of a position number (R178). -/
def onPosition (p : Byte) (code : Byte) (carry : Fin 16 → State → State) (s : State) : State :=
  if h : p.toNat < 16 then carry ⟨p.toNat, h⟩ s else answer .badParam code s

/-- The test of a disabled window, made where the window table holds its records (R178). -/
def unlessDisabled (w : Fin 8) (code : Byte) (carry : State → State) (s : State) : State :=
  if s.part.state.holdsRecords && !windowEnabled s w then answer .badParam code s else carry s

/-- ACTIVE alone (Table 12-3). -/
def inActive : PartState → Bool
  | .active => true
  | _ => false

/-- ACTIVE and FAULT (Table 12-3). -/
def inActiveOrFault : PartState → Bool
  | .active => true
  | .fault => true
  | _ => false

/-- ACTIVE, PASS-ONLY and FAULT (Table 12-3). -/
def outsideStartUp : PartState → Bool
  | .active => true
  | .passOnly => true
  | .fault => true
  | _ => false

/-! ### The status commands (12.4) -/

/-- The 24 bytes of a STATUS answer (Table 13-9). -/
def statusData (s : State) : List Byte :=
  [Config.partRevision, s.part.state.code, s.loader.outcome.code] ++ s.loader.outcome.windowField ++
    [s.part.storeOutcome.code, flagByte s.store.latch, s.tracker.state.code,
      BitVec.ofNat 8 s.part.notices.toNat, BitVec.ofNat 8 s.writePath.alertCauses.toNat] ++
    bytesBE 2 s.tracker.rowReopen.toNat ++ bytesBE 2 s.tracker.closedBankAccess.toNat ++
    bytesBE 2 s.tracker.refreshWithOpen.toNat ++ bytesBE 2 s.writePath.parityFails.toNat ++
    bytesBE 2 s.writePath.checkFails.toNat ++ bytesBE 4 s.time.ticks.toNat

/-- STATUS (R179). -/
def execStatus (s : State) : Host.Outcome State Fault Refusal :=
  .next (frameEnds 0x01#8 (fun s => answerData 0x01#8 (statusData s) s) s)

/-- The settings byte of a window record (Table 13-10). -/
def settingsByte (r : WindowRecord) : Byte :=
  (if r.enabled then 0x01#8 else 0x00#8) ||| (if r.inspection then 0x02#8 else 0x00#8)

/-- The configuration summary of a window (R54, Table 13-10). -/
def summaryBytes (r : WindowRecord) : List Byte :=
  [settingsByte r, r.sizeCode] ++ bytesBE 4 r.base.toNat ++ bytesBE 2 r.countValue.toNat ++
    bytesBE 2 r.timeout.toNat ++ bytesBE 2 r.threshold.toNat

/-- The six outcome counters of a window (Table 13-10). -/
def outcomeBytes (o : OutcomeCounts) : List Byte :=
  bytesBE 4 o.wrapped.toNat ++ bytesBE 4 o.short.toNat ++ bytesBE 4 o.torn.toNat ++
    bytesBE 4 o.abandoned.toNat ++ bytesBE 4 o.expired.toNat ++ bytesBE 4 o.orphan.toNat

/-- The record reported where none is loaded; WINDOW STATUS is refused there (R54). -/
def noRecord : WindowRecord :=
  { enabled := false, inspection := false, sizeCode := 0x00#8, base := 0#32, countValue := 0#16,
    timeout := 0#16, threshold := 0#16 }

/-- What a window reports: as it stands when enabled; a disabled window reports no freeze cause and
zero counts beside its configuration (R54). -/
def reportedWindow (s : State) (w : Fin 8) : Window :=
  if windowEnabled s w then s.windows[w]
  else { Window.blank with record := s.windows[w].record }

/-- The 48 bytes of a WINDOW STATUS answer (R54, Table 13-10). -/
def windowData (s : State) (w : Fin 8) : List Byte :=
  let x := reportedWindow s w
  BitVec.ofNat 8 w.val :: summaryBytes (x.record.getD noRecord) ++
    [x.freeze.byte, BitVec.ofNat 8 (if windowEnabled s w then openContexts s w else 0)] ++
    outcomeBytes x.outcomes ++ bytesBE 4 x.blanked.toNat ++ [blankCode x.lastBlank] ++
    bytesBE 4 s.store.wrapSeq[w].toNat

/-- WINDOW STATUS (R54, R178, R179). -/
def execWindowStatus (window : Byte) (s : State) : Host.Outcome State Fault Refusal :=
  .next <| frameEnds 0x02#8
    (onWindow window 0x02#8 fun w =>
      whenPermitted PartState.holdsRecords 0x02#8 fun s =>
        answerData 0x02#8 (windowData s w) s) s

/-- The 22 bytes of a KEY STATUS answer (R150, Table 13-11). -/
def keyData (s : State) (p : Fin 16) : List Byte :=
  let x := s.store.positions[p]
  keyStateCode x.state :: bytesBE 8 x.keyId.toNat ++ bytesBE 4 x.next ++ bytesBE 4 x.limit ++
    [BitVec.ofNat 8 s.pools[p].length] ++ bytesBE 4 x.generation.toNat

/-- KEY STATUS, for positions of disabled windows as well (R150, R178, R179). -/
def execKeyStatus (position : Byte) (s : State) : Host.Outcome State Fault Refusal :=
  .next <| frameEnds 0x03#8
    (onPosition position 0x03#8 fun p =>
      whenPermitted PartState.holdsRecords 0x03#8 fun s =>
        answerData 0x03#8 (keyData s p) s) s

/-! ### The key commands (12.5) -/

/-- Some non-EMPTY position other than `p` holds the key identifier (R180 check 6). -/
def heldElsewhere (s : State) (p : Fin 16) (keyId : KeyId) : Bool :=
  (List.finRange 16).any fun q =>
    q != p && s.store.positions[q].state != .empty && s.store.positions[q].keyId == keyId

/-- The start and limit are in order and in range (R180 check 7). -/
def rangeHolds (block : KeyBlock) : Bool :=
  decide (block.start.toNat ≤ block.limit.toNat) && decide (block.limit.toNat ≤ Config.maxCounter)

/-- A KEY LOAD is accepted: the mark is set, BUSY is held with code 10h, and the key block is pending
for the derivation unit, which takes it up at once when idle (R141, R177, R180). -/
def acceptLoad (p : Fin 16) (block : KeyBlock) (s : State) : State :=
  let s := answer .busy 0x10#8 s
  takeUpNext
    { s with link.loadInProgress := true, derivation.pendingLoad := some (p, block) }

/-- Checks 3 to 7 of a KEY LOAD, in order (R180). -/
def checkLoad (p : Fin 16) (block : KeyBlock) (s : State) : State :=
  if s.store.latch then answer .tampered 0x10#8 s
  else if s.store.positions[p].state = .active then answer .positionActive 0x10#8 s
  else if block.keyId = 0#64 then answer .badParam 0x10#8 s
  else if heldElsewhere s p block.keyId then answer .duplicateId 0x10#8 s
  else if !rangeHolds block then answer .badRange 0x10#8 s
  else acceptLoad p block s

/-- KEY LOAD (R180). -/
def execKeyLoad (position : Byte) (block : KeyBlock) (s : State) :
    Host.Outcome State Fault Refusal :=
  .next <| frameEnds 0x10#8
    (onPosition position 0x10#8 fun p =>
      unlessDisabled (ownerWindow p) 0x10#8 <|
        whenPermitted inActive 0x10#8 (checkLoad p block)) s

/-- A position is erased, with rollover when it was ACTIVE (R137), and work that this makes for the
derivation unit is taken up (R141). -/
def eraseKey (p : Fin 16) (s : State) : State :=
  let x := s.store.positions[p]
  let s := setPool p [] (setPosition p (emptied x) s)
  takeUpNext (if x.state = .active then rollover p s else s)

/-- KEY ERASE (R137, R181). -/
def execKeyErase (position : Byte) (s : State) : Host.Outcome State Fault Refusal :=
  .next <| frameEnds 0x11#8
    (onPosition position 0x11#8 fun p =>
      whenPermitted inActiveOrFault 0x11#8 fun s => answer .ok 0x11#8 (eraseKey p s)) s

/-- A window's ACTIVE position is turned SPENT and its READY partner made ACTIVE by rollover (R138). -/
def switchKey (p : Fin 16) (s : State) : State :=
  takeUpNext <| rollover p <| setPool p [] <| setPosition p (spentOf s.store.positions[p]) s

/-- KEY SWITCH carried out, or refused NO_STANDBY (R138). -/
def trySwitch (w : Fin 8) (s : State) : State :=
  match activePosition s w with
  | some p =>
    if s.store.positions[partner p].state = .ready then answer .ok 0x12#8 (switchKey p s)
    else answer .noStandby 0x12#8 s
  | none => answer .noStandby 0x12#8 s

/-- KEY SWITCH (R138, R181). -/
def execKeySwitch (window : Byte) (s : State) : Host.Outcome State Fault Refusal :=
  .next <| frameEnds 0x12#8
    (onWindow window 0x12#8 fun w =>
      unlessDisabled w 0x12#8 <| whenPermitted inActive 0x12#8 (trySwitch w)) s

/-! ### Freeze, acknowledgement and clearing (12.6) -/

/-- MANAGEMENT joins or leaves a window's freeze-cause set (R49). -/
def setManagement (w : Fin 8) (present : Bool) (s : State) : State :=
  let x := s.windows[w]
  setWindow w { x with freeze := { x.freeze with management := present } } s

/-- FREEZE (R49, R182). -/
def execFreeze (window : Byte) (s : State) : Host.Outcome State Fault Refusal :=
  .next <| frameEnds 0x20#8
    (onWindow window 0x20#8 fun w =>
      unlessDisabled w 0x20#8 <| whenPermitted PartState.holdsRecords 0x20#8 fun s =>
        answer .ok 0x20#8 (setManagement w true s)) s

/-- THAW (R49, R182). -/
def execThaw (window : Byte) (s : State) : Host.Outcome State Fault Refusal :=
  .next <| frameEnds 0x21#8
    (onWindow window 0x21#8 fun w =>
      unlessDisabled w 0x21#8 <| whenPermitted PartState.holdsRecords 0x21#8 fun s =>
        answer .ok 0x21#8 (setManagement w false s)) s

/-- The causes of a NOTICE ACK leave the notice-cause set (R165). -/
def acknowledge (causes : Byte) (s : State) : State :=
  { s with part.notices := s.part.notices &&& ~~~(causes.extractLsb' 0 7) }

/-- NOTICE ACK; a 1 in bit 7 names no defined cause (R165, R178, R182). -/
def execNoticeAck (causes : Byte) (s : State) : Host.Outcome State Fault Refusal :=
  .next <| frameEnds 0x30#8
    (fun s =>
      if causes.getLsbD 7 then answer .badParam 0x30#8 s
      else answer .ok 0x30#8 (acknowledge causes s)) s

/-- ALERT CLEAR (R41, R182). -/
def execAlertClear (s : State) : Host.Outcome State Fault Refusal :=
  .next <| frameEnds 0x31#8
    (fun s => answer .ok 0x31#8 { s with writePath.alertCauses := 0#3 }) s

/-- TAMPER CLEAR carried out: the latch is cleared and TAMPER leaves every window (R163). -/
def clearTamper (s : State) : State := thawTamper { s with store.latch := false }

/-- TAMPER CLEAR (R163, R178, R182). -/
def execTamperClear (s : State) : Host.Outcome State Fault Refusal :=
  .next <| frameEnds 0x32#8
    (whenPermitted outsideStartUp 0x32#8 fun s =>
      if s.inputs.tamperLine then answer .lineActive 0x32#8 s
      else answer .ok 0x32#8 (clearTamper s)) s

/-- A write frame that fails R175: BAD_FRAME with its command code echoed, or BUSY while a key load is
in progress (R175, R177). A transaction without a byte is no frame (R174), and bytes that pass R175 are
another command's frame, not this one (log entry 9). -/
def execBadFrame (bytes : List Byte) (s : State) : Host.Outcome State Fault Refusal :=
  .next <|
    match bytes with
    | [] => s
    | code :: rest =>
      if frameAccepted (code :: rest) then s
      else frameEnds code (answer .badFrame code) s

end Sys2Proof.Machine
end

