-- ==== Sys2Proof/Machine/StartUp.lean ====
section
/-! DEFINITION. Part reset, reading and checking the configuration image, and SELF-TEST (sections 10
and 11). -/

namespace Sys2Proof.Machine

/-! ### Part reset (R158) -/

/-- The retained store after a part reset (R146, R160; log entry 10). -/
def storeAfter (s : State) : StoreFate → RetainedStore
  | .kept => s.store
  | .holds contents => contents

/-- The part reset input is asserted: RESET from every state, everything but the retained store, the
transport key and the incoming lines at its reset value (R157, R158). -/
def execPartReset (store : StoreFate) (s : State) : Host.Outcome State Fault Refusal :=
  .next
    { State.reset with
      store := storeAfter s store
      transportKey := s.transportKey
      inputs := s.inputs
      pending := s.pending }

/-- The part reset input is released: the tamper line is looked at once, then LOADING begins with the
request for the image (R158, R167). -/
def execPartResetRelease (s : State) : Host.Outcome State Fault Refusal :=
  .next <|
    if s.part.state = .reset then
      let s := if s.inputs.tamperLine then takeTamper s else s
      { s with
        part.state := .loading
        ports.configPort := [.busRelease, .readRequest 0] }
    else s

/-! ### Checking the image (11.3) -/

/-- The working copy of 138 bytes; FFh from where the memory stopped driving the port (R167). -/
def workingCopyOf (bytes : List Byte) : List Byte :=
  (bytes ++ List.replicate Config.imageBytes 0xFF#8).take Config.imageBytes

/-- The record of a window in the image (Table 13-6). -/
def imageRecord (image : List Byte) (w : Fin 8) : WindowRecord := recordAt image (8 + 16 * w.val)

/-- The first enabled record that is not well formed, in ascending window order (R170). -/
def firstBadWindow (image : List Byte) : Option (Fin 8) :=
  (List.finRange 8).find? fun w => (imageRecord image w).enabled && !(imageRecord image w).wellFormed

/-- The pairs of windows in the order of the OVERLAP check (R170). -/
def windowPairs : List (Fin 8 × Fin 8) :=
  (List.finRange 8).flatMap fun i =>
    ((List.finRange 8).filter fun j => decide (i < j)).map fun j => (i, j)

/-- The first pair of enabled windows that share a line (R170). -/
def firstOverlap (image : List Byte) : Option (Fin 8 × Fin 8) :=
  windowPairs.find? fun (i, j) =>
    (imageRecord image i).enabled && (imageRecord image j).enabled &&
      (imageRecord image i).overlaps (imageRecord image j)

/-- The outcome of the checks of a read image, in order (Table 11-1). -/
def checkImage (image : List Byte) : ImageOutcome :=
  if byteAt image 0 ≠ 0x49#8 ∨ byteAt image 1 ≠ 0x57#8 then .signature
  else if byteAt image 2 ≠ 0x01#8 then .version
  else if (imageCode (image.take 136)).toNat ≠ fieldBE image 136 2 then .check
  else if (byteAt image 3).extractLsb' 4 4 ≠ 0x2#4 then .revision
  else
    match firstBadWindow image with
    | some w => .window w
    | none =>
      match firstOverlap image with
      | some (i, j) => .overlap i j
      | none => .valid

/-! ### Leaving LOADING (11.4) -/

/-- The windows loaded from a valid image, frozen for TAMPER when the latch is set (R58, R171). -/
def loadedWindows (image : List Byte) (latch : Bool) : Vector Window 8 :=
  Vector.ofFn fun w : Fin 8 =>
    let r := imageRecord image w
    { Window.blank with
      record := some r, freeze := { management := false, tamper := latch && r.enabled } }

/-- The part leaves LOADING for SELF-TEST with a valid image (R171); the known-answer test begins
(R159). -/
def leaveValid (s : State) : State :=
  let image := s.loader.workingCopy
  { s with
    windows := loadedWindows image s.store.latch
    time := { prescaler := some (fieldBE image 4 2 + 1), count := 0, ticks := 0#32 }
    part.state := .selfTest
    derivation.inFlight := some .knownAnswer
    loader := { outcome := .valid, workingCopy := [] } }

/-- The part leaves LOADING for PASS-ONLY with a failure reason (R172). -/
def leaveFailed (outcome : ImageOutcome) (s : State) : State :=
  raiseNotice .image
    { s with
      time := { prescaler := some Config.passOnlyPrescaler, count := 0, ticks := 0#32 }
      part.state := .passOnly
      loader := { outcome := outcome, workingCopy := [] } }

/-- The outcome decided, the part leaves LOADING (R171, R172). -/
def leaveLoading (outcome : ImageOutcome) (s : State) : State :=
  if outcome = .valid then leaveValid s else leaveFailed outcome s

/-- The image transfer ends (R168); nothing happens outside LOADING or while the reference clock, which
drives the memory port, is stopped (log entry 9). -/
def execImageTransferComplete (image : Option (List Byte)) (s : State) :
    Host.Outcome State Fault Refusal :=
  .next <|
    if s.part.state = .loading ∧ s.inputs.clockRunning = true then
      match image with
      | none => leaveLoading .absent s
      | some bytes =>
        let s := { s with loader.workingCopy := workingCopyOf bytes }
        leaveLoading (checkImage s.loader.workingCopy) s
    else s

/-! ### SELF-TEST (10.2, R147) -/

/-- The SPENT test made of every position in ascending order (R147 step 3). -/
def spentTestAll (s : State) : State :=
  (List.finRange 16).foldl (fun s p => spentTest p s) s

/-- The READY position of a window, if it has one (R147 step 4). -/
def readyPosition (s : State) (w : Fin 8) : Option (Fin 16) :=
  if s.store.positions[positionA w].state = .ready then some (positionA w)
  else if s.store.positions[positionB w].state = .ready then some (positionB w)
  else none

/-- A window without an ACTIVE position has its READY one made ACTIVE, or raises NO_KEY when it is
enabled (R147 step 4). -/
def settleWindow (s : State) (w : Fin 8) : State :=
  match activePosition s w with
  | some _ => s
  | none =>
    match readyPosition s w with
    | some p => setPosition p { s.store.positions[p] with state := .active } s
    | none => raiseNoticeWhen (windowEnabled s w) .noKey s

/-- The last step of SELF-TEST: spent positions, windows without an ACTIVE key, the retained-store
outcome, ACTIVE, and the first operation of the derivation unit (R147, R159, R160). -/
def enterActive (outcome : StoreOutcome) (s : State) : State :=
  let s := (List.finRange 8).foldl settleWindow (spentTestAll s)
  takeUpNext { s with part := { s.part with storeOutcome := outcome, state := .active } }

/-- The retained-store outcome of a store whose marker was present (R160). -/
def storeOutcomeOf (s : State) : StoreOutcome :=
  if s.part.mismatch then .positionsErased else .held

/-- The first READY or ACTIVE position from a number on (R159 step 3). -/
def nextToCheck (s : State) (start : Nat) : Option (Fin 16) :=
  (List.finRange 16).find? fun p =>
    decide (start ≤ p.val) && holdsKey s.store.positions[p]

/-- The recomputation of the next position to check is taken up, or SELF-TEST ends (R147, R159). -/
def checkFrom (start : Nat) (s : State) : State :=
  match nextToCheck s start with
  | some p =>
    let key := s.store.positions[p].baseKey.getD 0#128
    { s with derivation.inFlight := some (.recompute p (some key)) }
  | none => enterActive (storeOutcomeOf s) s

/-- The marker is absent: the store is lost, the latch is decided afresh, and the new contents are
written with the marker (R148, R160). -/
def loseStore (s : State) : State :=
  let latch := s.inputs.tamperLine || s.part.tamperTaken
  let s :=
    raiseNotice .store
      { s with
        store :=
          { marker := true, latch := latch, wrapSeq := Vector.replicate 8 0#32,
            positions := Vector.replicate 16 Config.blankPosition }
        pools := Vector.replicate 16 [] }
  if latch then freezeForTamper s else thawTamper s

/-- The known-answer test fails (R161). -/
def enterFault (s : State) : State := raiseNotice .fault { s with part.state := .fault }

/-- The known-answer test completes (R159 steps 1 and 2). -/
def execKnownAnswerTestComplete (passed : Bool) (s : State) : Host.Outcome State Fault Refusal :=
  .next <|
    if s.part.state = .selfTest ∧ s.derivation.inFlight = some .knownAnswer then
      let s := { s with derivation.inFlight := none }
      if !passed then enterFault s
      else if s.store.marker then checkFrom 0 s
      else enterActive .lost (loseStore s)
    else s

/-- A position whose stored check value no longer answers its base key is taken to EMPTY, with STORE
raised (R147 step 1). -/
def erasePosition (p : Fin 16) (s : State) : State :=
  let s := setPool p [] (setPosition p (emptied s.store.positions[p]) s)
  raiseNotice .store { s with part.mismatch := true }

/-- The result of a recomputation applied to its position; a void result changes nothing (R147,
R159). -/
def judgeRecomputation (p : Fin 16) (key : Option Block) (s : State) : State :=
  match key with
  | none => s
  | some k =>
    if some (checkValue k) = s.store.positions[p].check then s else erasePosition p s

/-- A check-value recomputation completes (R147, R159). -/
def execCheckValueRecomputationComplete (s : State) : Host.Outcome State Fault Refusal :=
  .next <|
    match s.part.state, s.derivation.inFlight with
    | .selfTest, some (.recompute p key) =>
      checkFrom (p.val + 1) (judgeRecomputation p key { s with derivation.inFlight := none })
    | _, _ => s

end Sys2Proof.Machine
end

