-- ==== Sys2Proof/Machine/Time.lean ====
section
/-! DEFINITION. Ticks, expiry and the reference clock (sections 4.5 and 9). -/

namespace Sys2Proof.Machine

/-- TICK (R151, R78): nothing while the time base does not run (R152, R156). -/
def execTick (s : State) : Host.Outcome State Fault Refusal :=
  .next (if timeRuns s then takeTick s else s)

/-- CONTEXT EXPIRY: the context of a window and slot leaves if it is due at the tick counter's present
value (R78). -/
def execContextExpiry (window : Fin 8) (slot : Nat) (s : State) : Host.Outcome State Fault Refusal :=
  .next <|
    if timeRuns s then endContexts (fun c => c.isFor window slot && expiryDue s c) .timeout s else s

/-- The 25 MHz reference clock stops (R156). -/
def execReferenceClockStop (s : State) : Host.Outcome State Fault Refusal :=
  .next { s with inputs.clockRunning := false }

/-- The 25 MHz reference clock resumes (R156). -/
def execReferenceClockResume (s : State) : Host.Outcome State Fault Refusal :=
  .next { s with inputs.clockRunning := true }

end Sys2Proof.Machine
end

