-- ==== Sys2Proof/Machine/Dispatch.lean ====
section
/-! DEFINITION. Each command's meaning, one arm per row of the table. -/

namespace Sys2Proof.Machine

def exec (i : Instr) (s : State) : Host.Outcome State Fault Refusal :=
  match i with
  | .rowOpen group bank row parityOk => Sys2Proof.Machine.execRowOpen group bank row parityOk s
  | .bankClose group bank parityOk => Sys2Proof.Machine.execBankClose group bank parityOk s
  | .closeAll parityOk => Sys2Proof.Machine.execCloseAll parityOk s
  | .write group bank column autoClose chop parityOk => Sys2Proof.Machine.execWrite group bank column autoClose chop parityOk s
  | .read group bank column autoClose chop parityOk => Sys2Proof.Machine.execRead group bank column autoClose chop parityOk s
  | .refresh parityOk => Sys2Proof.Machine.execRefresh parityOk s
  | .selfRefreshEntry parityOk => Sys2Proof.Machine.execSelfRefreshEntry parityOk s
  | .selfRefreshExit parityOk => Sys2Proof.Machine.execSelfRefreshExit parityOk s
  | .powerDownEntry parityOk => Sys2Proof.Machine.execPowerDownEntry parityOk s
  | .powerDownExit parityOk => Sys2Proof.Machine.execPowerDownExit parityOk s
  | .modeSet group bank address parityOk => Sys2Proof.Machine.execModeSet group bank address parityOk s
  | .calibrate parityOk => Sys2Proof.Machine.execCalibrate parityOk s
  | .noOperation parityOk => Sys2Proof.Machine.execNoOperation parityOk s
  | .deselect parityOk => Sys2Proof.Machine.execDeselect parityOk s
  | .writeDataBurst burst => Sys2Proof.Machine.execWriteDataBurst burst s
  | .readDataBurst beats => Sys2Proof.Machine.execReadDataBurst beats s
  | .dramAlertAssertion => Sys2Proof.Machine.execDramAlertAssertion s
  | .dramAlertDeassertion => Sys2Proof.Machine.execDramAlertDeassertion s
  | .checkFailurePulseEnd => Sys2Proof.Machine.execCheckFailurePulseEnd s
  | .channelReset => Sys2Proof.Machine.execChannelReset s
  | .channelResetRelease => Sys2Proof.Machine.execChannelResetRelease s
  | .tick => Sys2Proof.Machine.execTick s
  | .contextExpiry window slot => Sys2Proof.Machine.execContextExpiry window slot s
  | .partReset store => Sys2Proof.Machine.execPartReset store s
  | .partResetRelease => Sys2Proof.Machine.execPartResetRelease s
  | .imageTransferComplete image => Sys2Proof.Machine.execImageTransferComplete image s
  | .knownAnswerTestComplete passed => Sys2Proof.Machine.execKnownAnswerTestComplete passed s
  | .checkValueRecomputationComplete => Sys2Proof.Machine.execCheckValueRecomputationComplete s
  | .refillCompletion => Sys2Proof.Machine.execRefillCompletion s
  | .keyLoadUnwrapCompletion => Sys2Proof.Machine.execKeyLoadUnwrapCompletion s
  | .tamper => Sys2Proof.Machine.execTamper s
  | .tamperLineInactive => Sys2Proof.Machine.execTamperLineInactive s
  | .status => Sys2Proof.Machine.execStatus s
  | .windowStatus window => Sys2Proof.Machine.execWindowStatus window s
  | .keyStatus position => Sys2Proof.Machine.execKeyStatus position s
  | .keyLoad position block => Sys2Proof.Machine.execKeyLoad position block s
  | .keyErase position => Sys2Proof.Machine.execKeyErase position s
  | .keySwitch window => Sys2Proof.Machine.execKeySwitch window s
  | .freeze window => Sys2Proof.Machine.execFreeze window s
  | .thaw window => Sys2Proof.Machine.execThaw window s
  | .noticeAck causes => Sys2Proof.Machine.execNoticeAck causes s
  | .alertClear => Sys2Proof.Machine.execAlertClear s
  | .tamperClear => Sys2Proof.Machine.execTamperClear s
  | .badFrame bytes => Sys2Proof.Machine.execBadFrame bytes s
  | .referenceClockStop => Sys2Proof.Machine.execReferenceClockStop s
  | .referenceClockResume => Sys2Proof.Machine.execReferenceClockResume s

end Sys2Proof.Machine
end

