-- ==== Sys2Proof/Safety.lean ====
section
/-! DEFINITION. The terms the statements use: when a channel command is taken, when a management frame
is carried out, and the invariants of the part that the manual states. -/

namespace Sys2Proof

open Machine

/-! ### When a command is taken or carried out -/

/-- The part is in SELF-TEST, ACTIVE, PASS-ONLY or FAULT. -/
abbrev PastLoading (s : State) : Prop :=
  s.part.state ≠ .reset ∧ s.part.state ≠ .loading

/-- The tracker takes commands (R17, R20, R21). -/
abbrev TrackerTakes (s : State) : Prop :=
  PastLoading s ∧ s.inputs.controllerReset = false ∧ s.tracker.state = .tracking

/-- A command is not taken back by the parity check (R16). -/
abbrev PassesParity (s : State) (parityOk : Bool) : Prop :=
  s.tracker.mode.commandParity = true → parityOk = true

/-- A frame is acknowledged and no key load is in progress (R156, R174, R177). -/
abbrev LinkFree (s : State) : Prop :=
  s.part.state ≠ .reset ∧ s.inputs.clockRunning = true ∧ s.link.loadInProgress = false

/-- The window table holds its loaded records (R49). -/
abbrev HoldsRecords (s : State) : Prop :=
  s.part.state = .selfTest ∨ s.part.state = .active ∨ s.part.state = .fault

/-- The window has a loaded record that is enabled. -/
abbrev Enabled (s : State) (w : Fin 8) : Prop :=
  ∃ r ∈ s.windows[w].record, r.enabled = true

/-- An answer without data is held and no frame is being received. -/
def answered (s : State) (code : AnswerCode) (echo : Byte) : Link :=
  { s.link with frame := [], answer := { code := code, echo := echo, data := [] } }

/-- An answer OK with data is held and no frame is being received. -/
def answeredData (s : State) (echo : Byte) (data : List Byte) : Link :=
  { s.link with frame := [], answer := { code := .ok, echo := echo, data := data } }

/-- The parity indication that a command of the channel carries; `none` for every other step. -/
def channelParity : Instr → Option Bool
  | .rowOpen _ _ _ ok => some ok
  | .bankClose _ _ ok => some ok
  | .closeAll ok => some ok
  | .write _ _ _ _ _ ok => some ok
  | .read _ _ _ _ _ ok => some ok
  | .refresh ok => some ok
  | .selfRefreshEntry ok => some ok
  | .selfRefreshExit ok => some ok
  | .powerDownEntry ok => some ok
  | .powerDownExit ok => some ok
  | .modeSet _ _ _ ok => some ok
  | .calibrate ok => some ok
  | .noOperation ok => some ok
  | .deselect ok => some ok
  | _ => none

/-- The part places captures: it is in SELF-TEST, ACTIVE or FAULT and the memory controller's reset
line is not asserted (R22). -/
abbrev Captures (s : State) : Prop := HoldsRecords s ∧ s.inputs.controllerReset = false

/-- `n` steps without a command. -/
def idle : Nat → State → State
  | 0, s => s
  | n + 1, s =>
    match step s with
    | .next t => idle n t
    | .fault _ => s
    | .refused _ => s

/-! ### Values the statements compute for themselves -/

/-- One more, but never above the highest value the count can hold. -/
def saturated {w : Nat} (x : BitVec w) : BitVec w := BitVec.ofNat w (min (x.toNat + 1) (2 ^ w - 1))

/-- The number in `n` bytes of a record from an offset, the byte at the lowest offset the most
significant (R183). -/
def numberAt (bytes : List Byte) (offset n : Nat) : Nat :=
  ((List.range n).map fun i => (byteAt bytes (offset + i)).toNat * 256 ^ (n - 1 - i)).sum

/-- The write check code of bytes as they are driven on one lane: their bits, beat 0 first and bit 7
first, then eight 0 bits, divided by x^8 + x^2 + x + 1 from the value 00h; the remainder is the code
(R24, Table 2-1). -/
def writeCheckCode (driven : List Byte) : Byte :=
  let bits := (driven.flatMap fun b => (List.range 8).map fun i => b.getLsbD (7 - i)) ++
    List.replicate 8 false
  BitVec.ofNat 8
    (bits.foldl
      (fun remainder bit =>
        let shifted := 2 * remainder + bit.toNat
        if shifted < 256 then shifted else Nat.xor shifted 0x107)
      0x00)

/-- The bytes that lane `i` carries, one in each beat. -/
def onLane (beats : List Beat) (i : Nat) : List Byte :=
  beats.map fun beat => (beat.map (·.data)).getD i 0x00#8

/-- The newest 16 entries of a list of entries. -/
def newestEntries (l : List ExpiredEntry) : List ExpiredEntry := l.drop (l.length - 16)

/-- A context is due at a tick value: its window's timeout is above 0 and has elapsed (R78, R154), also
with T = 1 at the tick that follows a write (the model's choice against R81, log entry 27). -/
def due (s : State) (now : Tick) (c : Context) : Bool :=
  match s.windows[c.window].record with
  | some r =>
    decide (0 < r.timeout.toNat) && decide (r.timeout.toNat ≤ (now.toNat + 2 ^ 32 - c.lastWrite.toNat) % 2 ^ 32)
  | none => false

/-- The burst of zeros of a blank, with correct codes, or complemented ones after a check failure (R26,
R28). -/
def zeroBurst (d : BurstDesc) (complemented : Bool) : WireBurst :=
  let b : WireByte :=
    if d.writeInversion then { data := 0xFF#8, asserted := true }
    else { data := 0x00#8, asserted := false }
  let code := laneCode (List.replicate d.extent.beats b.data)
  { beats := List.replicate d.extent.beats (List.replicate 8 b)
    codes :=
      if d.writeCheck then some (List.replicate 8 (if complemented then ~~~code else code)) else none }

/-- The key table after position `p` has left ACTIVE: a READY partner becomes ACTIVE (R135). -/
def promoted (p : Fin 16) (positions : Vector KeyPosition 16) : Vector KeyPosition 16 :=
  if positions[partner p].state = .ready then
    positions.set (partner p) { positions[partner p] with state := .active }
  else positions

/-- The notice causes after position `p` has left ACTIVE: NO_KEY joins for an enabled window without a
READY partner (R135). -/
def noticesAfterRollover (s : State) (p : Fin 16) : BitVec 7 :=
  if s.store.positions[partner p].state ≠ .ready ∧ windowEnabled s (ownerWindow p) = true then
    s.part.notices ||| 0x20#7
  else s.part.notices

/-- The burst arrives for a description with the line of a placement, in a state that captures, and
passes its write check (R22, R25). -/
structure PassingCapture (s : State) (d : BurstDesc) (rest : List BurstDesc) (burst : WireBurst)
    (pl : Placement) : Prop where
  captures : Captures s
  awaiting : s.writePath.awaiting = d :: rest
  placed : ∃ line, d.place = .at line ∧ placeLine s line = some pl
  passes : d.writeCheck = true → burst.codes = some (laneCodes burst.beats)

/-- The slot of a placement has no context. -/
abbrev NoContext (s : State) (pl : Placement) : Prop :=
  ∀ c ∈ s.contexts, ¬ (c.window = pl.window ∧ c.slot = pl.slot)

/-- A whole burst of a window blanked with a cause: zeros forwarded, the blank counted and named, and
the notice causes raised (R31, R53). -/
def blankedFor (s : State) (d : BurstDesc) (rest : List BurstDesc) (w : Fin 8) (cause : BlankCause)
    (notices : BitVec 7) : State :=
  { s with
    writePath.awaiting := rest
    ports.dramWrite := some (zeroBurst d false)
    windows :=
      s.windows.set w
        { s.windows[w] with blanked := saturated s.windows[w].blanked, lastBlank := some cause }
    part.notices := s.part.notices ||| notices }

/-- A byte of a capture burst as plaintext: inversion undone, and 00h for a masked byte (R27, R29). -/
def plainByte (d : BurstDesc) (w : WireByte) : Byte :=
  if d.writeInversion then (if w.asserted then ~~~w.data else w.data)
  else if d.dataMask && w.asserted then 0x00#8 else w.data

/-- The close word of a trailer-line burst: the eight bytes of line beat 0 as plaintext, or eight zero
bytes for a CHOPPED-UPPER burst, which does not carry that beat (R29, R33, R34). Byte 0 is the close
code, byte 1 the declared length and bytes 2 to 7 the writer reference (Table 13-2). -/
def writtenCloseWord (d : BurstDesc) (burst : WireBurst) : CloseWord :=
  let byte := fun k =>
    if d.extent = .choppedUpper then 0x00#8
    else (((burst.beats.getD 0 []).map (plainByte d))[k]?).getD 0x00#8
  { code := byte 0
    length := byte 1
    writerRef := byte 2 ++ byte 3 ++ byte 4 ++ byte 5 ++ byte 6 ++ byte 7 }

/-- Position `p` is the one ACTIVE position of window `w`. -/
abbrev TheActivePosition (s : State) (w : Fin 8) (p : Fin 16) : Prop :=
  ownerWindow p = w ∧ s.store.positions[p].state = .active ∧
    s.store.positions[partner p].state ≠ .active

/-- A coverage map with the blocks of a burst marked (R66). -/
def coverWith (coverage : BitVec 32) (blocks : List BodyBlock) : BitVec 32 :=
  blocks.foldl (fun m b => m ||| 1#32 <<< b.number) coverage

/-- A tag sum with the tag terms of blocks, each enciphered under AK over plaintext XOR position (R66,
R123). -/
def sumWith (c : Context) (sum : Block) (blocks : List BodyBlock) : Block :=
  blocks.foldl
    (fun t b =>
      t ^^^ encipher c.ak (b.plain ^^^ positionBlock b.number c.window.val c.slot c.counter c.keyId))
    sum

/-- A block combined with the keystream of its position under EK (R66, R122). -/
def enciphered (c : Context) (b : BodyBlock) : Block :=
  b.plain ^^^ encipher c.ek (positionBlock b.number c.window.val c.slot c.counter c.keyId)

/-- The card inspection result after blocks are enciphered: that of block 0 when it is among them
(R69). -/
def inspectionAfter (inspects : Bool) (before : Option Inspection) (blocks : List BodyBlock) :
    Option Inspection :=
  match blocks.find? fun b => b.number == 0 with
  | some b => some (inspectionOf inspects b.plain)
  | none => before

/-- The declared length as taken (R72). -/
def lengthTaken (length : Byte) (capacity : Nat) : Nat :=
  if 1 ≤ length.toNat ∧ length.toNat ≤ capacity then length.toNat else capacity

/-- The outcome counters after one more trailer of a state (R52). -/
def outcomesAfter (o : OutcomeCounts) : TrailerState → OutcomeCounts
  | .wrapped => { o with wrapped := saturated o.wrapped }
  | .short => { o with short := saturated o.short }
  | .torn => { o with torn := saturated o.torn }
  | .abandoned => { o with abandoned := saturated o.abandoned }
  | .expired => { o with expired := saturated o.expired }
  | .orphan => { o with orphan := saturated o.orphan }
  | .inProgress => o
  | .fault => o

/-- The beats of a trailer that a burst of some extent carries (R33, R34). -/
def trailerPart (e : Extent) (t : Trailer) : List (List Byte) :=
  match e with
  | .full => (List.range 8).map fun k => (t.bytes.drop (8 * k)).take 8
  | .choppedLower => (List.range 4).map fun k => (t.bytes.drop (8 * k)).take 8
  | .choppedUpper => (List.range 4).map fun k => (t.bytes.drop (8 * (k + 4))).take 8

/-- A byte as the read path sends it: complemented, with its line asserted, when read inversion is on
and it holds more than four 0 bits (R39). -/
def readByte (inversion : Bool) (b : Byte) : WireByte :=
  if inversion = true ∧ 4 < (List.range 8).countP fun i => !b.getLsbD i then
    { data := ~~~b, asserted := true }
  else { data := b, asserted := false }

/-- The flag bits of a context and its inspection result, shown at close and in progress (R93, R99). -/
def shownFlags (c : Context) : BitVec 16 :=
  (if c.inspection.any (·.unreadable) then 0x0002#16 else 0#16) |||
    (if c.inspection.any (·.checkDigitFail) then 0x0004#16 else 0#16) |||
    (if c.zeroFilled then 0x0008#16 else 0#16) ||| (if c.keyLow then 0x0080#16 else 0#16)

/-- The flag bits of a close word (R72). -/
def wordFlags (w : CloseWord) (capacity : Nat) : BitVec 16 :=
  (if w.length.toNat = 0 ∨ capacity < w.length.toNat then 0x0020#16 else 0#16) |||
    (if w.code = 0x01#8 ∨ w.code = 0x02#8 then 0#16 else 0x0040#16)

/-- A position holds a base key for use: READY or ACTIVE. -/
abbrev InUse (x : KeyPosition) : Prop := x.state = .ready ∨ x.state = .active

/-- A position needs a refill (R140). -/
abbrev NeedsRefill (s : State) (p : Fin 16) : Prop :=
  InUse s.store.positions[p] ∧ Enabled s (ownerWindow p) ∧ s.pools[p].length < 4 ∧
    s.store.positions[p].next ≤ s.store.positions[p].limit ∧
      ∀ n g k, s.derivation.inFlight ≠ some (.refill p n g k)

/-- A position with nothing left: it is in use, N is above L, its pool is empty and no refill for it is
in flight (R134). -/
def usedUp (s : State) (p : Fin 16) : Bool :=
  holdsKey s.store.positions[p] &&
    decide (s.store.positions[p].limit < s.store.positions[p].next) && s.pools[p].isEmpty &&
      !refillInFlight s p

/-- A position turned SPENT: key and check value gone, identifier and counters kept, generation raised
(R134, R138). -/
def turnedSpent (x : KeyPosition) : KeyPosition :=
  { state := .spent, keyId := x.keyId, baseKey := none, check := none, start := x.start,
    limit := x.limit, next := x.next, generation := x.generation + 1 }

/-- A position taken to EMPTY with its generation raised (R137, R149). -/
def takenEmpty (x : KeyPosition) : KeyPosition :=
  { state := .empty, keyId := 0#64, baseKey := none, check := none, start := 0, limit := 0, next := 0,
    generation := x.generation + 1 }

/-- A SPENT test that position `p` meets: it turns SPENT, and an ACTIVE one causes rollover (R134,
R135). -/
def spentAt (s : State) (p : Fin 16) : State :=
  { s with
    store.positions :=
      if s.store.positions[p].state = .active then
        promoted p (s.store.positions.set p (turnedSpent s.store.positions[p]))
      else s.store.positions.set p (turnedSpent s.store.positions[p])
    part.notices :=
      if s.store.positions[p].state = .active then noticesAfterRollover s p else s.part.notices }

/-- Tamper taken with the latch clear (R50, R80, R127, R149, R162). -/
def tampered (s : State) : State :=
  { s with
    store :=
      { s.store with
        latch := true
        positions := Vector.ofFn fun p : Fin 16 => takenEmpty s.store.positions[p] }
    pools := Vector.replicate 16 []
    contexts := []
    expired :=
      newestEntries (s.expired ++
        s.contexts.map fun c =>
          { window := c.window, slot := c.slot, keyId := c.keyId, counter := c.counter,
            openTick := c.openTick, coverage := c.coverage, cause := .tamper,
            endTick := s.time.ticks })
    windows :=
      Vector.ofFn fun w : Fin 8 =>
        { s.windows[w] with
          freeze :=
            { s.windows[w].freeze with
              tamper := s.windows[w].freeze.tamper || windowEnabled s w } }
    derivation :=
      { s.derivation with
        pendingLoad := none
        inFlight :=
          match s.derivation.inFlight with
          | some (.recompute p _) => some (.recompute p none)
          | some (.refill p n g _) => some (.refill p n g none)
          | some (.unwrap p _) => some (.unwrap p none)
          | some .knownAnswer => some .knownAnswer
          | none => none }
    link :=
      if s.derivation.pendingLoad = none then s.link
      else
        { s.link with
          answer := { code := .tampered, echo := 0x10#8, data := [] }, loadInProgress := false }
    part := { s.part with notices := s.part.notices ||| 0x08#7, tamperTaken := true } }

/-- The tests of one enabled window record of an image (R170). -/
abbrev RecordHolds (r : WindowRecord) : Prop :=
  (r.sizeCode = 0x02#8 ∨ r.sizeCode = 0x04#8 ∨ r.sizeCode = 0x08#8) ∧
    r.size ∣ r.base.toNat ∧ r.base.toNat + r.size * r.slots - 1 ≤ 134217727

/-- Two enabled records of an image whose windows share a line (R170). -/
abbrev SharesLine (r q : WindowRecord) : Prop :=
  r.enabled = true ∧ q.enabled = true ∧ r.base.toNat ≤ q.base.toNat + q.size * q.slots - 1 ∧
    q.base.toNat ≤ r.base.toNat + r.size * r.slots - 1

/-- The state as the part leaves LOADING: the time base starts from 0 with P, the image outcome is
decided, and the working copy is cleared (R152, R166, R167). -/
def leftLoading (s : State) (state : PartState) (outcome : ImageOutcome) (p : Nat) : State :=
  { s with
    part.state := state
    time := { prescaler := some p, count := 0, ticks := 0#32 }
    loader := { outcome := outcome, workingCopy := [] } }

/-- A position as the end of SELF-TEST finds it: SPENT when it is in use with N above L (R147). -/
def afterSpentCheck (x : KeyPosition) : KeyPosition :=
  if InUse x ∧ x.limit < x.next then turnedSpent x else x

/-- A window's positions A and B after the end of SELF-TEST: with no ACTIVE one, the READY one becomes
ACTIVE (R147). -/
def settledPair (a b : KeyPosition) : KeyPosition × KeyPosition :=
  if a.state = .active ∨ b.state = .active then (a, b)
  else if a.state = .ready then ({ a with state := .active }, b)
  else if b.state = .ready then (a, { b with state := .active })
  else (a, b)

/-- The positions after the end of SELF-TEST (R147). -/
def settledPositions (s : State) : Vector KeyPosition 16 :=
  Vector.ofFn fun p : Fin 16 =>
    let w := ownerWindow p
    let pair :=
      settledPair (afterSpentCheck s.store.positions[positionA w])
        (afterSpentCheck s.store.positions[positionB w])
    if p = positionA w then pair.1 else pair.2

/-- The end of SELF-TEST (R147 steps 3 and 4, R159, R160): ACTIVE is entered with the positions settled,
NO_KEY raised for an enabled window left without an ACTIVE one, and the derivation unit then looks for
work. -/
def enteredActive (s : State) (outcome : StoreOutcome) : State :=
  takeUpNext
    { s with
      store.positions := settledPositions s
      part :=
        { s.part with
          state := .active
          storeOutcome := outcome
          notices :=
            if ∃ w : Fin 8, windowEnabled s w = true ∧
                (settledPositions s)[positionA w].state ≠ .active ∧
                (settledPositions s)[positionB w].state ≠ .active then
              s.part.notices ||| 0x20#7
            else s.part.notices } }

/-- The answer to a key load that is decided: the mark is cleared (R177). -/
def loadAnswered (s : State) (code : AnswerCode) : Link :=
  { s.link with answer := { code := code, echo := 0x10#8, data := [] }, loadInProgress := false }

/-! ### The context table and the expired list (R62, R77) -/

/-- Ascending order of window and then slot. -/
abbrev ContextBefore (c d : Context) : Prop :=
  c.window < d.window ∨ (c.window = d.window ∧ c.slot < d.slot)

/-- At most 32 contexts in ascending order of window and slot, so none twice; at most 16 expired-list
entries, none twice and none for a slot with a context (R62, R77). -/
structure ContextTableInv (s : State) : Prop where
  contexts_length : s.contexts.length ≤ 32
  contexts_sorted : s.contexts.Pairwise ContextBefore
  expired_length : s.expired.length ≤ 16
  expired_distinct : s.expired.Pairwise fun e f => e.window ≠ f.window ∨ e.slot ≠ f.slot
  expired_closed : ∀ e ∈ s.expired, ∀ c ∈ s.contexts, e.window ≠ c.window ∨ e.slot ≠ c.slot

/-! ### What each part state holds (R57, R85, R139, R152) -/

/-- The contents of the blocks fit the part state. -/
structure PhaseInv (s : State) : Prop where
  /-- contexts and entries stand in ACTIVE alone (R85) -/
  tables_active : s.part.state ≠ .active → s.contexts = [] ∧ s.expired = []
  /-- no records outside SELF-TEST, ACTIVE and FAULT (R57) -/
  records_none : ¬ HoldsRecords s → ∀ w : Fin 8, s.windows[w].record = none
  /-- in those states every record is loaded, and every enabled one well formed (R45) -/
  records_loaded :
    HoldsRecords s → ∀ w : Fin 8, ∃ r ∈ s.windows[w].record, r.enabled = true → r.wellFormed = true
  /-- the time base stands at 0 without a setting in RESET and LOADING (R152) -/
  time_held :
    ¬ PastLoading s → s.time.prescaler = none ∧ s.time.count = 0 ∧ s.time.ticks = 0#32
  /-- afterwards the count stays below the setting P, which is 1 to 65,536 (R151) -/
  time_runs :
    PastLoading s → ∃ p ∈ s.time.prescaler, 1 ≤ p ∧ p ≤ 65536 ∧ s.time.count < p
  /-- the tracker keeps its reset values through RESET and LOADING (R21) -/
  tracker_held : ¬ PastLoading s → s.tracker = State.reset.tracker
  /-- in SELF-TEST the derivation unit runs the known-answer test or a recomputation (R159) -/
  self_test :
    s.part.state = .selfTest →
      s.derivation.pendingLoad = none ∧
        ∃ o ∈ s.derivation.inFlight, o = .knownAnswer ∨ ∃ p k, o = .recompute p k
  /-- in ACTIVE it runs refills and unwraps alone (R126) -/
  active_work :
    s.part.state = .active →
      ∀ o ∈ s.derivation.inFlight, (∃ p n g k, o = .refill p n g k) ∨ ∃ p b, o = .unwrap p b
  /-- in the other states it is idle (R139) -/
  idle_work :
    s.part.state ≠ .selfTest → s.part.state ≠ .active →
      s.derivation.pendingLoad = none ∧ s.derivation.inFlight = none
  /-- a pending key load waits behind a refill (R141) -/
  pending_waits :
    s.derivation.pendingLoad ≠ none → ∃ p n g k, s.derivation.inFlight = some (.refill p n g k)
  /-- the load-in-progress mark stands while a load is pending or in flight (R177) -/
  mark :
    s.link.loadInProgress = true ↔
      s.derivation.pendingLoad ≠ none ∨ ∃ p b, s.derivation.inFlight = some (.unwrap p b)

/-- Every context lies in an enabled window, in one of its slots, with no block covered at or above the
body capacity, and with an inspection result exactly when block 0 is covered (R47, R66, R69). -/
def CoverageInv (s : State) : Prop :=
  ∀ c ∈ s.contexts, ∃ r ∈ s.windows[c.window].record,
    r.enabled = true ∧ c.slot < r.slots ∧
      (∀ j : Nat, r.capacity ≤ j → c.coverage.getLsbD j = false) ∧
      c.inspection.isSome = c.coverage.getLsbD 0

/-! ### Key positions (R129 to R135) -/

/-- One position's fields fit its state (Table 8-1, R130). -/
structure PositionFits (x : KeyPosition) (pool : List PoolEntry) : Prop where
  /-- EMPTY: no key, identifier zero, counters zero, no pool -/
  empty :
    x.state = .empty →
      x.keyId = 0#64 ∧ x.baseKey = none ∧ x.check = none ∧ x.start = 0 ∧ x.limit = 0 ∧ x.next = 0 ∧
        pool = []
  /-- SPENT: no key, an identifier, no pool -/
  spent : x.state = .spent → x.keyId ≠ 0#64 ∧ x.baseKey = none ∧ x.check = none ∧ pool = []
  /-- READY and ACTIVE: a key with its check value, an identifier -/
  in_use :
    x.state = .ready ∨ x.state = .active →
      x.keyId ≠ 0#64 ∧ x.baseKey ≠ none ∧ x.check ≠ none
  counters : x.start ≤ x.limit ∧ x.limit ≤ 1048575 ∧ x.next ≤ x.limit + 1 ∧ x.start ≤ x.next
  pool_length : pool.length ≤ 4
  pool_sorted : pool.Pairwise fun e f => e.counter < f.counter
  pool_range : ∀ e ∈ pool, x.start ≤ e.counter ∧ e.counter < x.next

/-- A key block on its way into a position keeps identifiers unique and counters in range (R136,
R180). -/
abbrev LoadFits (s : State) (p : Fin 16) (b : KeyBlock) : Prop :=
  b.keyId ≠ 0#64 ∧ b.start.toNat ≤ b.limit.toNat ∧ b.limit.toNat ≤ 1048575 ∧
    ∀ q : Fin 16, q ≠ p → s.store.positions[q].state ≠ .empty →
      s.store.positions[q].keyId ≠ b.keyId

/-- The key table of an initialised store (R129 to R136). -/
structure KeyTableInv (s : State) : Prop where
  fits : ∀ p : Fin 16, PositionFits s.store.positions[p] s.pools[p]
  /-- no two non-EMPTY positions hold one identifier (R135) -/
  unique :
    ∀ p q : Fin 16, p ≠ q → s.store.positions[p].state ≠ .empty →
      s.store.positions[q].state ≠ .empty →
        s.store.positions[p].keyId ≠ s.store.positions[q].keyId
  /-- at most one ACTIVE position in a window (R135) -/
  one_active :
    ∀ w : Fin 8, ¬ (s.store.positions[positionA w].state = .active ∧
      s.store.positions[positionB w].state = .active)
  /-- in ACTIVE, a READY position's partner is ACTIVE (R135) -/
  ready_partner :
    s.part.state = .active → ∀ p : Fin 16, s.store.positions[p].state = .ready →
      s.store.positions[partner p].state = .active
  /-- a refill in flight for a position in use holds the last counter reserved (R131, R132) -/
  reserved :
    ∀ p n g k, s.derivation.inFlight = some (.refill p n g k) →
      s.store.positions[p].state = .ready ∨ s.store.positions[p].state = .active →
        s.store.positions[p].next = n + 1 ∧ s.store.positions[p].start ≤ n ∧
          s.pools[p].length < 4 ∧ ∀ e ∈ s.pools[p], e.counter < n
  /-- a load pending or in flight will keep the table in order (R136) -/
  load_pending : ∀ p b, s.derivation.pendingLoad = some (p, b) → LoadFits s p b
  load_flying : ∀ p b, s.derivation.inFlight = some (.unwrap p (some b)) → LoadFits s p b

/-! ### The tamper latch (R149, R162) -/

/-- With the latch set every key position is EMPTY, no pool, context or key load stands, and every
enabled window carries TAMPER (R162). -/
structure LatchHolds (s : State) : Prop where
  positions : ∀ p : Fin 16, s.store.positions[p].state = .empty
  pools : ∀ p : Fin 16, s.pools[p] = []
  contexts : s.contexts = []
  windows : ∀ w : Fin 8, Enabled s w → s.windows[w].freeze.tamper = true
  pending : s.derivation.pendingLoad = none
  unwrap : ∀ p b, s.derivation.inFlight = some (.unwrap p b) → b = none

/-! ### Part resets that keep the retained store -/

/-- The command does not put contents of its own under a retained store's marker; a loss, which leaves
no marker, may come (R160, log entry 10). -/
def KeepsStore : Instr → Prop
  | .partReset (.holds contents) => contents.marker = false
  | _ => True

/-- The invariant of an initialised store: with the marker present, the key table is in order, and the
latch, while set, means what R162 says. No waiting command puts other contents under a marker. -/
structure StoreInv (s : State) : Prop where
  phase : PhaseInv s
  keys : s.store.marker = true → KeyTableInv s
  latch : s.store.marker = true → s.store.latch = true → LatchHolds s
  waiting : ∀ c ∈ s.pending, KeepsStore c

end Sys2Proof
end

