-- ==== Sys2Proof/WellFormed.lean ====
section
/-! DEFINITION. Which commands are well formed: operands that the channel, the ports and the link can
carry. The meanings are total and answer on ill-formed operands too. -/

namespace Sys2Proof

/-- A beat carries a byte on each of the eight lanes (section 0.4). -/
def Beat.wellFormed (b : Beat) : Bool := b.length == 8

/-- Beats of a full or a chopped burst (R13). -/
def beatsWellFormed (beats : List Beat) : Bool :=
  (beats.length == 8 || beats.length == 4) && beats.all Beat.wellFormed

/-- A write burst carries its beats and, where codes travel, one for each lane (R24). -/
def WireBurst.wellFormed (b : WireBurst) : Bool :=
  beatsWellFormed b.beats && b.codes.all fun codes => codes.length == 8

/-- The counters of a key position stand in their ranges (Table 8-1). -/
def KeyPosition.countersWellFormed (x : KeyPosition) : Bool :=
  decide (x.start ≤ x.limit + 1) && decide (x.limit ≤ Config.maxCounter) &&
    decide (x.next ≤ x.limit + 1)

/-- The contents a retained store is found to hold fit the fields of Table 8-1. -/
def StoreFate.wellFormed : StoreFate → Bool
  | .kept => true
  | .holds contents =>
    (List.finRange 16).all fun p => contents.positions[p].countersWellFormed

/-- A command is well formed. -/
def Instr.wellFormed : Instr → Bool
  | .rowOpen _ _ _ _ => true
  | .bankClose _ _ _ => true
  | .closeAll _ => true
  | .write _ _ _ _ _ _ => true
  | .read _ _ _ _ _ _ => true
  | .refresh _ => true
  | .selfRefreshEntry _ => true
  | .selfRefreshExit _ => true
  | .powerDownEntry _ => true
  | .powerDownExit _ => true
  | .modeSet _ _ _ _ => true
  | .calibrate _ => true
  | .noOperation _ => true
  | .deselect _ => true
  | .writeDataBurst burst => burst.wellFormed
  | .readDataBurst beats => beatsWellFormed beats
  | .dramAlertAssertion => true
  | .dramAlertDeassertion => true
  | .checkFailurePulseEnd => true
  | .channelReset => true
  | .channelResetRelease => true
  | .tick => true
  | .contextExpiry _ slot => decide (slot < 65536)
  | .partReset store => store.wellFormed
  | .partResetRelease => true
  | .imageTransferComplete image => image.all fun bytes => decide (bytes.length ≤ Config.imageBytes)
  | .knownAnswerTestComplete _ => true
  | .checkValueRecomputationComplete => true
  | .refillCompletion => true
  | .keyLoadUnwrapCompletion => true
  | .tamper => true
  | .tamperLineInactive => true
  | .status => true
  | .windowStatus _ => true
  | .keyStatus _ => true
  | .keyLoad _ _ => true
  | .keyErase _ => true
  | .keySwitch _ => true
  | .freeze _ => true
  | .thaw _ => true
  | .noticeAck _ => true
  | .alertClear => true
  | .tamperClear => true
  | .badFrame bytes => !bytes.isEmpty && !Machine.frameAccepted bytes
  | .referenceClockStop => true
  | .referenceClockResume => true

end Sys2Proof
end

