-- ==== Sys2Proof/Certificates/Slice0/Obligations.lean ====
section
/-! DEFINITION. The statements about the model, each a proposition whose docstring names the rules of
the manual it formalises. -/

open Sys2Proof Sys2Proof.Machine

/-! ### Steps, the queue and time (section 9) -/

/-- A step takes the command at the front of the queue and runs it with the queue's rest; nothing else
happens. The queue is the model's own (the manual: each step of the table is whole and indivisible). -/
def Obligations.StepRunsFrontCommand : Prop :=
  ∀ (c : Instr) (rest : List Instr) (s : State), s.pending = c :: rest →
    step s = exec c { s with pending := rest }

/-- R151 and R152, with the model's choice that a step on an empty queue is one reference-clock period
(log entry 6): the prescaler count rises by 1 at each period, and the period at which it would reach P
is a tick. -/
def Obligations.IdlePeriodsMakeATick : Prop :=
  ∀ (s : State) (p : Nat), s.pending = [] → PastLoading s → s.inputs.clockRunning = true →
    s.time.prescaler = some p → s.time.count < p →
      (∀ k : Nat, s.time.count + k < p →
        idle k s = { s with time.count := s.time.count + k }) ∧
      exec .tick s = .next (idle (p - s.time.count) s)

/-- R78, R151, R152, R154: a tick raises the tick counter and ends every context that is due, each with
end cause TIMEOUT and the counter's new value, the newest 16 entries kept; CONTEXT EXPIRY is that expiry
for the context of one window and slot. R156: while time does not run there is neither. The model's
readings: TICK is the tick whatever the prescaler count is (log entry 6, DESIGN CHOICE); CONTEXT EXPIRY
is judged at the counter's present value and does nothing for a context that is not due (log entry 11,
DEDUCED); with T = 1 a context written in the current tick expires at the next, as R78 and R154 count it
and against a sentence of R81 (log entry 27, DESIGN CHOICE); and where time does not run, in RESET, in
LOADING and while the clock is stopped, both change nothing (log entry 9, DESIGN CHOICE). -/
def Obligations.TickAndExpiryEndQuietContexts : Prop :=
  (∀ s : State, PastLoading s → s.inputs.clockRunning = true → s.expired.length ≤ 16 →
    exec .tick s = .next
      { s with
        time := { s.time with count := 0, ticks := s.time.ticks + 1 }
        contexts := s.contexts.filter fun c => !due s (s.time.ticks + 1) c
        expired :=
          newestEntries (s.expired ++
            (s.contexts.filter (due s (s.time.ticks + 1))).map fun c =>
              { window := c.window, slot := c.slot, keyId := c.keyId, counter := c.counter,
                openTick := c.openTick, coverage := c.coverage, cause := .timeout,
                endTick := s.time.ticks + 1 }) }) ∧
  (∀ (s : State) (w : Fin 8) (slot : Nat),
    PastLoading s → s.inputs.clockRunning = true → s.expired.length ≤ 16 →
    exec (.contextExpiry w slot) s = .next
      { s with
        contexts :=
          s.contexts.filter fun c => !(c.window == w && c.slot == slot && due s s.time.ticks c)
        expired :=
          newestEntries (s.expired ++
            (s.contexts.filter fun c =>
              c.window == w && c.slot == slot && due s s.time.ticks c).map fun c =>
                { window := c.window, slot := c.slot, keyId := c.keyId, counter := c.counter,
                  openTick := c.openTick, coverage := c.coverage, cause := .timeout,
                  endTick := s.time.ticks }) }) ∧
  (∀ (s : State) (w : Fin 8) (slot : Nat), ¬ (PastLoading s ∧ s.inputs.clockRunning = true) →
    exec .tick s = .next s ∧ exec (.contextExpiry w slot) s = .next s)

/-- R156: while the reference clock is stopped no count moves, no tick occurs, no context expires and the
link does not answer; when it resumes, everything stands as it did. The model's choices: a step without
a command is a clock period (log entry 6), and a TICK or CONTEXT EXPIRY commanded while the clock is
stopped changes nothing (log entry 9). -/
def Obligations.StoppedClockIsNoTime : Prop :=
  ∀ s : State, s.pending = [] → s.inputs.clockRunning = true →
    ∃ t : State,
      exec .referenceClockStop s = .next t ∧
      (∀ n : Nat, idle n t = t) ∧ exec .tick t = .next t ∧
      (∀ (w : Fin 8) (slot : Nat), exec (.contextExpiry w slot) t = .next t) ∧
      (∀ (address : BitVec 7) (n : Nat), readTransaction t address n = none) ∧
      exec .referenceClockResume t = .next s

/-! ### The command tracker (section 1) -/

/-- R4: the entry of bank index 4g + b opens with the row; an entry already OPEN takes the new row and
ROW_REOPEN is counted. Nothing else changes but the record of the forwarded command. -/
def Obligations.RowOpenTaken : Prop :=
  ∀ (g b : BitVec 2) (row : BitVec 16) (ok : Bool) (s : State),
    TrackerTakes s → PassesParity s ok →
      (bankIndex g b).val = 4 * g.toNat + b.toNat ∧
      exec (.rowOpen g b row ok) s = .next
        { s with
          ports.dramCommand := some (.rowOpen g b row ok)
          tracker :=
            { s.tracker with
              banks := s.tracker.banks.set (bankIndex g b) (.opened row)
              rowReopen :=
                if s.tracker.banks[bankIndex g b] = .closed then s.tracker.rowReopen
                else saturated s.tracker.rowReopen } }

/-- R5: BANK CLOSE closes the named entry and CLOSE ALL every entry, without any count. -/
def Obligations.BankCloseAndCloseAllTaken : Prop :=
  ∀ (g b : BitVec 2) (ok : Bool) (s : State), TrackerTakes s → PassesParity s ok →
    exec (.bankClose g b ok) s = .next
      { s with
        ports.dramCommand := some (.bankClose g b ok)
        tracker.banks := s.tracker.banks.set (bankIndex g b) .closed } ∧
    exec (.closeAll ok) s = .next
      { s with
        ports.dramCommand := some (.closeAll ok)
        tracker.banks := Vector.replicate 16 .closed }

/-- R7: REFRESH and SELF-REFRESH ENTRY count REFRESH_WITH_OPEN once if any entry is OPEN, and close
every entry. -/
def Obligations.RefreshClosesEveryBank : Prop :=
  ∀ (ok : Bool) (s : State), TrackerTakes s → PassesParity s ok →
    ∃ n : BitVec 16,
      ((∀ i : Fin 16, s.tracker.banks[i] = .closed) → n = s.tracker.refreshWithOpen) ∧
      ((∃ i : Fin 16, s.tracker.banks[i] ≠ .closed) → n = saturated s.tracker.refreshWithOpen) ∧
      exec (.refresh ok) s = .next
        { s with
          ports.dramCommand := some (.refresh ok)
          tracker :=
            { s.tracker with banks := Vector.replicate 16 .closed, refreshWithOpen := n } } ∧
      exec (.selfRefreshEntry ok) s = .next
        { s with
          ports.dramCommand := some (.selfRefreshEntry ok)
          tracker :=
            { s.tracker with banks := Vector.replicate 16 .closed, refreshWithOpen := n } }

/-- Table 1-1, R1, R7, R16: the commands from which nothing is taken are forwarded and change nothing
else, taken or not, so long as they do not fail a parity check that is made. -/
def Obligations.CommandsThatTakeNothing : Prop :=
  ∀ (c : Instr) (ok : Bool) (s : State),
    c = .selfRefreshExit ok ∨ c = .powerDownEntry ok ∨ c = .powerDownExit ok ∨
      c = .calibrate ok ∨ c = .noOperation ok ∨ c = .deselect ok →
    (TrackerTakes s → PassesParity s ok) →
      exec c s = .next { s with ports.dramCommand := some c }

/-- R9, Table 1-2: MODE SET writes the fields of mode words 0, 2 and 5, whose number is
4 x (bank group mod 2) + bank, and leaves every other field as it was. -/
def Obligations.ModeSetTaken : Prop :=
  ∀ (g b : BitVec 2) (a : BitVec 18) (ok : Bool) (s : State),
    TrackerTakes s → PassesParity s ok →
      exec (.modeSet g b a ok) s = .next
        { s with
          ports.dramCommand := some (.modeSet g b a ok)
          tracker.mode :=
            if 4 * (g.toNat % 2) + b.toNat = 0 then
              { s.tracker.mode with
                burstMode :=
                  if a.toNat % 4 = 1 then .onTheFly
                  else if a.toNat % 4 = 2 then .fixedChop else .fixed8
                burstOrder := if a.toNat / 8 % 2 = 1 then .interleaved else .sequential }
            else if 4 * (g.toNat % 2) + b.toNat = 2 then
              { s.tracker.mode with writeCheck := decide (a.toNat / 4096 % 2 = 1) }
            else if 4 * (g.toNat % 2) + b.toNat = 5 then
              { s.tracker.mode with
                commandParity := decide (a.toNat % 8 ≠ 0)
                dataMask := decide (a.toNat / 1024 % 2 = 1)
                writeInversion := decide (a.toNat / 2048 % 2 = 1)
                readInversion := decide (a.toNat / 4096 % 2 = 1) }
            else s.tracker.mode }

/-- R2, R6, R10: a WRITE that is taken hands on the description formed from the bank's entry and the
mode record; a CLOSED bank is counted; with auto-close the entry is CLOSED afterwards. -/
def Obligations.WriteTaken : Prop :=
  ∀ (g b : BitVec 2) (col : BitVec 10) (autoClose chop ok : Bool) (s : State),
    TrackerTakes s → PassesParity s ok →
      exec (.write g b col autoClose chop ok) s = .next
        { s with
          ports.dramCommand := some (.write g b col autoClose chop ok)
          writePath.awaiting :=
            s.writePath.awaiting ++
              [{ place :=
                   match s.tracker.banks[bankIndex g b] with
                   | .opened row => .at (foldLine row (bankIndex g b) col)
                   | .closed => .absent .closedBank
                 extent := burstExtent s.tracker.mode.burstMode col chop
                 writeCheck := s.tracker.mode.writeCheck
                 dataMask := s.tracker.mode.dataMask && !s.tracker.mode.writeInversion
                 writeInversion := s.tracker.mode.writeInversion
                 readInversion := s.tracker.mode.readInversion }]
          tracker :=
            { s.tracker with
              banks :=
                if autoClose then s.tracker.banks.set (bankIndex g b) .closed else s.tracker.banks
              closedBankAccess :=
                if s.tracker.banks[bankIndex g b] = .closed then saturated s.tracker.closedBankAccess
                else s.tracker.closedBankAccess } }

/-- R2, R6, R10: a READ that is taken hands on its description, with start beat, burst order and the
trailer synthesized for its line, if any. -/
def Obligations.ReadTaken : Prop :=
  ∀ (g b : BitVec 2) (col : BitVec 10) (autoClose chop ok : Bool) (s : State),
    TrackerTakes s → PassesParity s ok →
      ∃ place : LinePlace,
        (∀ row, s.tracker.banks[bankIndex g b] = .opened row →
          place = .at (foldLine row (bankIndex g b) col)) ∧
        (s.tracker.banks[bankIndex g b] = .closed → place = .absent .closedBank) ∧
        exec (.read g b col autoClose chop ok) s = .next
          { s with
            ports.dramCommand := some (.read g b col autoClose chop ok)
            reads :=
              s.reads ++
                [{ burst :=
                     { place := place
                       extent := burstExtent s.tracker.mode.burstMode col chop
                       writeCheck := s.tracker.mode.writeCheck
                       dataMask := s.tracker.mode.dataMask && !s.tracker.mode.writeInversion
                       writeInversion := s.tracker.mode.writeInversion
                       readInversion := s.tracker.mode.readInversion }
                   startBeat := BitVec.ofNat 3 (col.toNat % 8)
                   order := s.tracker.mode.burstOrder
                   answer := synthesizedFor s place }]
            tracker :=
              { s.tracker with
                banks :=
                  if autoClose then s.tracker.banks.set (bankIndex g b) .closed
                  else s.tracker.banks
                closedBankAccess :=
                  if s.tracker.banks[bankIndex g b] = .closed then
                    saturated s.tracker.closedBankAccess
                  else s.tracker.closedBankAccess } }

/-- R17, R20, R21: in RESET and LOADING, in PARITY RECOVERY and while the memory controller's reset line
is asserted no command is taken: READ and WRITE are handed on with the line absent, UNTRACKED, and
every other command is only forwarded. -/
def Obligations.CommandsNotTaken : Prop :=
  ∀ s : State, ¬ TrackerTakes s →
    (∀ c : Instr, channelParity c ≠ none →
      (∀ g b col ac ch ok, c ≠ .write g b col ac ch ok) →
      (∀ g b col ac ch ok, c ≠ .read g b col ac ch ok) →
        exec c s = .next { s with ports.dramCommand := some c }) ∧
    (∀ g b col ac ch ok,
      exec (.write g b col ac ch ok) s = .next
        { s with
          ports.dramCommand := some (.write g b col ac ch ok)
          writePath.awaiting :=
            s.writePath.awaiting ++
              [describe s.tracker.mode (.absent .untracked)
                (burstExtent s.tracker.mode.burstMode col ch)] }) ∧
    (∀ g b col ac ch ok,
      exec (.read g b col ac ch ok) s = .next
        { s with
          ports.dramCommand := some (.read g b col ac ch ok)
          reads :=
            s.reads ++
              [{ burst :=
                   describe s.tracker.mode (.absent .untracked)
                     (burstExtent s.tracker.mode.burstMode col ch)
                 startBeat := BitVec.ofNat 3 (col.toNat % 8)
                 order := s.tracker.mode.burstOrder
                 answer := none }] })

/-- R16: in TRACKING with command parity on, a command that fails the check is forwarded and not taken:
every entry closes, PARITY RECOVERY is entered with the alert line asserted, and the write path counts
the failure and records PARITY_FAIL; a failing READ or WRITE is handed on UNTRACKED. -/
def Obligations.ParityFailureEntersRecovery : Prop :=
  ∀ (c : Instr) (s : State),
    channelParity c = some false → TrackerTakes s → s.tracker.mode.commandParity = true →
      ∃ t : State,
        exec c s = .next t ∧ alertLine t = true ∧
        t =
          { s with
            ports.dramCommand := some c
            tracker :=
              { s.tracker with banks := Vector.replicate 16 .closed, state := .parityRecovery }
            writePath :=
              { s.writePath with
                parityFails := saturated s.writePath.parityFails
                alertCauses := s.writePath.alertCauses ||| 1#3
                awaiting := t.writePath.awaiting }
            reads := t.reads } ∧
        (∀ g b col ac ch, c = .write g b col ac ch false →
          t.writePath.awaiting =
            s.writePath.awaiting ++
              [describe s.tracker.mode (.absent .untracked)
                (burstExtent s.tracker.mode.burstMode col ch)] ∧ t.reads = s.reads) ∧
        (∀ g b col ac ch, c = .read g b col ac ch false →
          t.reads =
            s.reads ++
              [{ burst :=
                   describe s.tracker.mode (.absent .untracked)
                     (burstExtent s.tracker.mode.burstMode col ch)
                 startBeat := BitVec.ofNat 3 (col.toNat % 8)
                 order := s.tracker.mode.burstOrder
                 answer := none }] ∧ t.writePath.awaiting = s.writePath.awaiting) ∧
        ((∀ g b col ac ch, c ≠ .write g b col ac ch false) →
          (∀ g b col ac ch, c ≠ .read g b col ac ch false) →
            t.reads = s.reads ∧ t.writePath.awaiting = s.writePath.awaiting)

/-- R1: every command of the channel completes, is forwarded as it was received, in every state, and
reaches nothing beyond the tracker, the write path's records and the descriptions handed on. -/
def Obligations.EveryChannelCommandIsForwarded : Prop :=
  ∀ (c : Instr) (s : State), channelParity c ≠ none →
    ∃ t : State,
      exec c s = .next t ∧
      t =
        { s with
          ports.dramCommand := some c
          tracker := t.tracker
          writePath := t.writePath
          reads := t.reads }

/-- R12: the line is ((row x 16 + bank index) x 128) + column / 8; the fold is one-to-one and its
values are exactly the lines 0 to 2^27 - 1. -/
def Obligations.FoldIsOneToOneOntoTheLines : Prop :=
  (∀ (r : BitVec 16) (g b : BitVec 2) (c : BitVec 10),
    foldLine r (bankIndex g b) c =
        (r.toNat * 16 + (4 * g.toNat + b.toNat)) * 128 + c.toNat / 8 ∧
      foldLine r (bankIndex g b) c ≤ 134217727) ∧
  (∀ (r r' : BitVec 16) (g g' b b' : BitVec 2) (c c' : BitVec 10),
    foldLine r (bankIndex g b) c = foldLine r' (bankIndex g' b') c' →
      r = r' ∧ g = g' ∧ b = b' ∧ c.toNat / 8 = c'.toNat / 8) ∧
  (∀ line : Nat, line ≤ 134217727 →
    ∃ (r : BitVec 16) (g b : BitVec 2) (c : BitVec 10), foldLine r (bankIndex g b) c = line)

/-- R13, R15: the extent of a burst from the burst mode, the chop indication and the column; and the
line beat of each burst beat of a READ, which delivers every beat of its line or half-line once. -/
def Obligations.BurstGeometry : Prop :=
  (∀ (col : BitVec 10) (chop : Bool),
    burstExtent .fixed8 col chop = .full ∧
    burstExtent .fixedChop col chop =
      (if col.toNat % 8 ≤ 3 then .choppedLower else .choppedUpper) ∧
    burstExtent .onTheFly col chop =
      (if chop then (if col.toNat % 8 ≤ 3 then .choppedLower else .choppedUpper) else .full)) ∧
  (∀ s k : Nat, s < 8 → k < 8 →
    readBeat .full .sequential s k = (s + k) % 8 ∧
    readBeat .full .interleaved s k = Nat.xor s k) ∧
  (∀ s k : Nat, s < 8 → k < 4 →
    readBeat .choppedLower .sequential s k = (s % 4 + k) % 4 ∧
    readBeat .choppedLower .interleaved s k = Nat.xor (s % 4) k ∧
    readBeat .choppedUpper .sequential s k = 4 + (s % 4 + k) % 4 ∧
    readBeat .choppedUpper .interleaved s k = 4 + Nat.xor (s % 4) k) ∧
  (∀ (e : Extent) (o : BurstOrder) (s : Nat), s < 8 →
    ((List.range e.beats).map (readBeat e o s)).Perm
      ((List.range e.beats).map fun k => e.firstBeat + k))

/-- R20, R42, R79: a channel reset closes every bank, resets the mode record, ends recovery, clears the
own-alert flag and ends every context with cause CHANNEL_RESET, the newest 16 entries kept; nothing
else changes. -/
def Obligations.ChannelResetSweepsTrackerAndContexts : Prop :=
  ∀ s : State, PastLoading s → s.inputs.controllerReset = false → s.expired.length ≤ 16 →
    exec .channelReset s = .next
      { s with
        inputs.controllerReset := true
        tracker :=
          { s.tracker with
            banks := Vector.replicate 16 .closed
            state := .tracking
            mode :=
              { burstMode := .fixed8, burstOrder := .sequential, writeCheck := false,
                commandParity := false, dataMask := false, writeInversion := false,
                readInversion := false } }
        writePath.ownAlert := false
        contexts := []
        expired :=
          newestEntries (s.expired ++
            s.contexts.map fun c =>
              { window := c.window, slot := c.slot, keyId := c.keyId, counter := c.counter,
                openTick := c.openTick, coverage := c.coverage, cause := .channelReset,
                endTick := s.time.ticks }) }

/-- R17, R19, R20, R21, R40, R42, R162: the events on the part's lines. The memory controller's reset
line in RESET and LOADING is not taken as channel reset; its release and the tamper line going inactive
move only the line; a check-failure pulse ends. An assertion of the DRAM-side alert input is the part's
own in PARITY RECOVERY or with the own-alert flag set, is not judged in RESET and LOADING, and else adds
DRAM_ALERT; its end returns the tracker to TRACKING. The DRAM reset line and the alert line follow. The
model's readings, both DEDUCED: check-failure pulses that overlap are counted and the end of a pulse
takes one off the count (log entry 13), and any end of an asserted alert input ends PARITY RECOVERY
(log entry 12). -/
def Obligations.LineEvents : Prop :=
  ∀ s : State,
    (¬ PastLoading s →
      exec .channelReset s = .next { s with inputs.controllerReset := true } ∧
      dramResetLine s = true) ∧
    (PastLoading s → dramResetLine s = s.inputs.controllerReset) ∧
    exec .channelResetRelease s = .next { s with inputs.controllerReset := false } ∧
    exec .tamperLineInactive s = .next { s with inputs.tamperLine := false } ∧
    exec .checkFailurePulseEnd s =
      .next { s with writePath.pulses := s.writePath.pulses - 1 } ∧
    (s.inputs.dramAlert = false →
      (¬ PastLoading s → exec .dramAlertAssertion s = .next { s with inputs.dramAlert := true }) ∧
      (PastLoading s → (s.tracker.state = .parityRecovery ∨ s.writePath.ownAlert = true) →
        exec .dramAlertAssertion s = .next
          { s with inputs.dramAlert := true, writePath.ownAlert := false }) ∧
      (PastLoading s → s.tracker.state = .tracking → s.writePath.ownAlert = false →
        exec .dramAlertAssertion s = .next
          { s with
            inputs.dramAlert := true
            writePath.alertCauses := s.writePath.alertCauses ||| 4#3 })) ∧
    (s.inputs.dramAlert = true →
      exec .dramAlertDeassertion s = .next
        { s with inputs.dramAlert := false, tracker.state := .tracking }) ∧
    (alertLine s = true ↔
      s.tracker.state = .parityRecovery ∨ 0 < s.writePath.pulses ∨ s.inputs.dramAlert = true)

/-! ### Placing a line and handling write bursts (sections 2 and 3) -/

/-- R46, R47: a line lies in an enabled window from B to B + S x C - 1; its slot index and line-in-slot
are the quotient and remainder of its offset by S, within the window's slots and lines; a body line of
a well formed record holds blocks below the body capacity; and without records every line is outside. -/
def Obligations.LinePlacement : Prop :=
  (∀ (s : State) (line : Nat) (pl : Placement), placeLine s line = some pl →
    s.windows[pl.window].record = some pl.record ∧ pl.record.enabled = true ∧
    pl.record.base.toNat ≤ line ∧
    line ≤ pl.record.base.toNat + pl.record.size * pl.record.slots - 1 ∧
    pl.slot = (line - pl.record.base.toNat) / pl.record.size ∧
    pl.pos = (line - pl.record.base.toNat) % pl.record.size ∧
    (pl.record.wellFormed = true →
      line = pl.record.base.toNat + pl.record.size * pl.slot + pl.pos ∧
      pl.slot < pl.record.slots ∧ pl.pos < pl.record.size ∧
      (pl.isTrailer = true ↔ pl.pos = pl.record.size - 1) ∧
      (pl.isTrailer = false → 4 * pl.pos + 3 < pl.record.capacity))) ∧
  (∀ (s : State) (line : Nat) (w : Fin 8) (r : WindowRecord),
    s.windows[w].record = some r → r.enabled = true → r.base.toNat ≤ line →
    line ≤ r.base.toNat + r.size * r.slots - 1 →
    (∀ (v : Fin 8) (q : WindowRecord), v ≠ w → s.windows[v].record = some q → q.enabled = true →
      ¬ (q.base.toNat ≤ line ∧ line ≤ q.base.toNat + q.size * q.slots - 1)) →
    ∃ pl : Placement, placeLine s line = some pl ∧ pl.window = w) ∧
  (∀ (s : State) (line : Nat), (∀ w : Fin 8, s.windows[w].record = none) →
    placeLine s line = none)

/-- R24, R26, R27, R28: the code of a lane is the remainder that Table 2-1 describes, over the bytes
driven on that lane. What the part composes, each byte inverted where R28 asks for it, passes the check
the DRAM makes and stores exactly the bytes the part chose. A complemented burst drives the same beats,
and its code is wrong in every lane. The zeros of a blank and of a check failure travel as R28 gives. -/
def Obligations.ComposedBurstsStoreTheChosenBytes : Prop :=
  (∀ driven : List Byte, laneCode driven = writeCheckCode driven) ∧
  (∀ beats : List Beat, (laneCodes beats).length = 8 ∧
    ∀ i < 8, (laneCodes beats)[i]? = some (writeCheckCode (onLane beats i))) ∧
  ∀ (d : BurstDesc) (beats : List (List Byte)), (∀ b ∈ beats, b.length = 8) →
    let sent := composedBurst d beats false
    let refused := composedBurst d beats true
    sent.beats = (beats.map fun b => b.map (readByte d.writeInversion)) ∧
    (sent.beats.map fun b => b.map (arrivedByte d)) = (beats.map fun b => b.map some) ∧
    (sent.codes = if d.writeCheck then some (laneCodes sent.beats) else none) ∧
    passesCheck d sent = true ∧
    refused.beats = sent.beats ∧
    (d.writeCheck = true →
      passesCheck d refused = false ∧
      ∃ codes : List Byte, refused.codes = some codes ∧ codes.length = 8 ∧
        ∀ i < 8,
          codes[i]? = some (~~~writeCheckCode (onLane refused.beats i)) ∧
          codes[i]? ≠ some (writeCheckCode (onLane refused.beats i))) ∧
    (∀ complemented : Bool,
      composedBurst d (List.replicate d.extent.beats (List.replicate 8 0x00#8)) complemented =
        zeroBurst d complemented)

/-- R22, R30: a burst that is UNTRACKED or outside every enabled window, or that arrives in RESET,
LOADING, PASS-ONLY or a held channel reset, goes out exactly as it came; a CLOSED_BANK write in
SELF-TEST, ACTIVE or FAULT is blanked whole, its code unchecked and nothing counted or raised. That a
described line or a CLOSED_BANK write is judged by the state in which its data arrives, so that it
passes unchanged when that is RESET, LOADING or a held channel reset, is the model's reading of R22 and
R83 (log entry 14, DEDUCED). -/
def Obligations.BurstsThatAreNotCaptures : Prop :=
  ∀ (burst : WireBurst) (d : BurstDesc) (rest : List BurstDesc) (s : State),
    s.writePath.awaiting = d :: rest →
    ((¬ Captures s ∨ d.place = .absent .untracked ∨
        ∃ line, d.place = .at line ∧ placeLine s line = none) →
      exec (.writeDataBurst burst) s = .next
        { s with writePath.awaiting := rest, ports.dramWrite := some burst }) ∧
    (Captures s → d.place = .absent .closedBank →
      exec (.writeDataBurst burst) s = .next
        { s with writePath.awaiting := rest, ports.dramWrite := some (zeroBurst d false) })

/-- R25, R26, R35, R43, R70: a capture burst with a wrong lane code goes out as zeros with complemented
codes, is counted once, adds CHECK_FAIL, starts an alert pulse, sets the own-alert flag and raises the
reject count of the slot's context, up to 15; nothing else changes. -/
def Obligations.CheckFailureRejectsTheBurst : Prop :=
  ∀ (burst : WireBurst) (d : BurstDesc) (rest : List BurstDesc) (line : Nat) (pl : Placement)
      (s : State),
    s.writePath.awaiting = d :: rest → Captures s → d.place = .at line →
    placeLine s line = some pl → d.writeCheck = true →
    burst.codes ≠ some (laneCodes burst.beats) →
      exec (.writeDataBurst burst) s = .next
        { s with
          ports.dramWrite := some (zeroBurst d true)
          writePath :=
            { s.writePath with
              awaiting := rest
              checkFails := saturated s.writePath.checkFails
              ownAlert := true
              pulses := s.writePath.pulses + 1
              alertCauses := s.writePath.alertCauses ||| 2#3 }
          contexts :=
            s.contexts.map fun c =>
              if c.window = pl.window ∧ c.slot = pl.slot then
                { c with rejectCount := saturated c.rejectCount }
              else c }

/-- R23, R53: in SELF-TEST and FAULT a capture burst, body or trailer, that passes its check is blanked
whole with cause FAULT, counted in its window, and BLANKED is raised. -/
def Obligations.CapturesBlankedOutsideActive : Prop :=
  ∀ (burst : WireBurst) (d : BurstDesc) (rest : List BurstDesc) (pl : Placement) (s : State),
    PassingCapture s d rest burst pl → s.part.state ≠ .active →
      exec (.writeDataBurst burst) s = .next (blankedFor s d rest pl.window .fault 0x40#7)

/-! ### Slot contexts (section 4) -/

/-- R60, R61, R53: for a slot without a context the opening tests FROZEN, NO_KEY, STARVED and FULL are
made in that order; the first that fails blanks the burst, is counted, and raises BLANKED, with NO_KEY
as well for a NO_KEY blank; nothing in the context table changes. -/
def Obligations.OpeningRefusals : Prop :=
  ∀ (burst : WireBurst) (d : BurstDesc) (rest : List BurstDesc) (pl : Placement) (s : State),
    PassingCapture s d rest burst pl → s.part.state = .active → pl.isTrailer = false →
    NoContext s pl →
      (s.windows[pl.window].freeze.management = true ∨
          s.windows[pl.window].freeze.tamper = true →
        exec (.writeDataBurst burst) s = .next (blankedFor s d rest pl.window .frozen 0x40#7)) ∧
      (s.windows[pl.window].freeze = { management := false, tamper := false } →
        ((∀ p : Fin 16, ownerWindow p = pl.window → s.store.positions[p].state ≠ .active) →
          exec (.writeDataBurst burst) s =
            .next (blankedFor s d rest pl.window .noKey 0x60#7)) ∧
        (∀ p : Fin 16, TheActivePosition s pl.window p →
          (s.pools[p] = [] →
            exec (.writeDataBurst burst) s =
              .next (blankedFor s d rest pl.window .starved 0x40#7)) ∧
          (s.pools[p] ≠ [] → 32 ≤ s.contexts.length →
            exec (.writeDataBurst burst) s =
              .next (blankedFor s d rest pl.window .full 0x40#7))))

/-- R62, R63, R66, R133, R134, R135: when every test passes, a context opens with the pool head and the
tick value, takes every block of the burst, and the slot's expired-list entry is removed; the head
leaves the pool; KEY_LOW is raised when fewer counters remain than the window's threshold; a position
with nothing left turns SPENT and its window rolls over; then the derivation unit, if it is idle, looks
for work. -/
def Obligations.OpeningDrawsThePoolHead : Prop :=
  ∀ (burst : WireBurst) (d : BurstDesc) (rest : List BurstDesc) (pl : Placement) (s : State)
      (p : Fin 16) (e : PoolEntry) (tail : List PoolEntry),
    PassingCapture s d rest burst pl → s.part.state = .active → pl.isTrailer = false →
    NoContext s pl → s.windows[pl.window].freeze = { management := false, tamper := false } →
    TheActivePosition s pl.window p → s.pools[p] = e :: tail → s.contexts.length < 32 →
      let x := s.store.positions[p]
      let blocks := bodyBlocks d burst pl.pos
      let remaining :=
        (x.limit + 1 - x.next) + tail.length + (if refillInFlight s p then 1 else 0)
      let low : Bool := decide (remaining < pl.record.threshold.toNat)
      let spent : Bool := decide (x.limit < x.next) && tail.isEmpty && !refillInFlight s p
      let opened : Context :=
        { window := pl.window, slot := pl.slot, keyId := x.keyId, counter := e.counter, ek := e.ek,
          ak := e.ak, coverage := 0#32, tagSum := 0#128, torn := false, zeroFilled := false,
          keyLow := low, rejectCount := 0#4, inspection := none, openTick := s.time.ticks,
          lastWrite := s.time.ticks }
      let taken : Context :=
        { opened with
          coverage := coverWith 0#32 blocks
          tagSum := sumWith opened 0#128 blocks
          zeroFilled := blocks.any (·.zeroFilled)
          inspection := inspectionAfter pl.record.inspection none blocks }
      exec (.writeDataBurst burst) s = .next
        (takeUpNext
          { s with
            writePath.awaiting := rest
            ports.dramWrite :=
              some (composedBurst d ((blocks.map (enciphered opened)).flatMap blockBeats) false)
            contexts := insertContext taken s.contexts
            expired :=
              s.expired.filter fun x => !(x.window == pl.window && x.slot == pl.slot)
            pools := s.pools.set p tail
            store.positions :=
              if spent then
                promoted p (s.store.positions.set p
                  { x with
                    state := .spent, baseKey := none, check := none
                    generation := x.generation + 1 })
              else s.store.positions
            part.notices :=
              (if spent then noticesAfterRollover s p else s.part.notices) |||
                (if low then 0x10#7 else 0#7) })

/-- R66 to R69: for a slot with a context, each block not yet covered is enciphered under its position,
covered and added to the tag sum; each block already covered is blanked and makes the context torn; the
last-write tick moves when some block was enciphered; and block 0 gives the card inspection result. -/
def Obligations.BodyBurstTakenIntoContext : Prop :=
  ∀ (burst : WireBurst) (d : BurstDesc) (rest : List BurstDesc) (pl : Placement) (c : Context)
      (s : State),
    PassingCapture s d rest burst pl → s.part.state = .active → pl.isTrailer = false →
    findContext s.contexts pl.window pl.slot = some c →
      let blocks := bodyBlocks d burst pl.pos
      let fresh := blocks.filter fun b => !c.coverage.getLsbD b.number
      let after : Context :=
        { c with
          coverage := coverWith c.coverage fresh
          tagSum := sumWith c c.tagSum fresh
          torn := c.torn || blocks.any fun b => c.coverage.getLsbD b.number
          zeroFilled := c.zeroFilled || fresh.any (·.zeroFilled)
          inspection := inspectionAfter pl.record.inspection c.inspection fresh
          lastWrite := if fresh = [] then c.lastWrite else s.time.ticks }
      exec (.writeDataBurst burst) s = .next
        { s with
          writePath.awaiting := rest
          ports.dramWrite :=
            some (composedBurst d
              ((blocks.map fun b =>
                if c.coverage.getLsbD b.number then 0#128 else enciphered c b).flatMap blockBeats)
              false)
          contexts :=
            s.contexts.map fun x =>
              if x.window = pl.window ∧ x.slot = pl.slot then after else x }

/-- R27, R29, R32, R66: the blocks of a body burst to body line p carry the numbers 4p to 4p + 3, or the
lower or upper two of them; each byte is its plaintext, inversion undone, with 00h for a masked byte;
and a block is zero-filled exactly when data mask is in effect and one of its sixteen bytes is masked.
That byte k of a block stands on lane k mod 8 of its beat, so that lane i carries byte i of a beat, is
the model's reading (log entry 7, DEDUCED). -/
def Obligations.BodyBlocksOfABurst : Prop :=
  ∀ (d : BurstDesc) (burst : WireBurst) (p : Nat),
    ((bodyBlocks d burst p).map (·.number) =
      match d.extent with
      | .full => [4 * p, 4 * p + 1, 4 * p + 2, 4 * p + 3]
      | .choppedLower => [4 * p, 4 * p + 1]
      | .choppedUpper => [4 * p + 2, 4 * p + 3]) ∧
    (∀ (i : Nat) (b : BodyBlock), burst.beats.length = d.extent.beats →
      (∀ beat ∈ burst.beats, beat.length = 8) → (bodyBlocks d burst p)[i]? = some b →
        let onWire := fun k : Nat => (burst.beats.getD (2 * i + k / 8) [])[k % 8]?
        (∀ k < 16, ∃ w : WireByte, onWire k = some w ∧
          (bytesOfBlock b.plain)[k]? = some (plainByte d w)) ∧
        (b.zeroFilled = true ↔
          d.writeInversion = false ∧ d.dataMask = true ∧
            ∃ k < 16, ∃ w : WireByte, onWire k = some w ∧ w.asserted = true)) ∧
    (∀ b ∈ bodyBlocks d burst p, d.dataMask = false ∨ d.writeInversion = true →
      b.zeroFilled = false)

/-- R66: a record written with the same plaintext in any order of its blocks reaches the same coverage
and the same tag sum, and every block is enciphered alike. -/
def Obligations.BlockOrderDoesNotMatter : Prop :=
  ∀ (inspects : Bool) (c : Context) (blocks blocks' : List BodyBlock),
    blocks.Perm blocks' → (blocks.map (·.number)).Nodup →
      (takeBlocks inspects c blocks).1 = (takeBlocks inspects c blocks').1 ∧
      (blocks.zip (takeBlocks inspects c blocks).2).Perm
        (blocks'.zip (takeBlocks inspects c blocks').2)

/-- R29, R33, R34, R52, R55, R72, R75, R90, Table 13-2: a trailer-line burst for a slot with a context
closes it with the close word written in line beat 0: the trailer goes out in place of the line, its
state is counted, the wrap sequence rises for WRAPPED alone, and the context leaves. -/
def Obligations.TrailerBurstClosesContext : Prop :=
  ∀ (burst : WireBurst) (d : BurstDesc) (rest : List BurstDesc) (pl : Placement) (c : Context)
      (s : State),
    PassingCapture s d rest burst pl → s.part.state = .active → pl.isTrailer = true →
    findContext s.contexts pl.window pl.slot = some c →
      let word := writtenCloseWord d burst
      let state := closeState c word pl.record.capacity
      let seq :=
        if state = .wrapped then s.store.wrapSeq[pl.window] + 1 else s.store.wrapSeq[pl.window]
      let trailer := closeTrailer c word pl.record.capacity s.time.ticks seq
      exec (.writeDataBurst burst) s = .next
        { s with
          writePath.awaiting := rest
          ports.dramWrite := some (composedBurst d (trailerPart d.extent trailer) false)
          windows :=
            s.windows.set pl.window
              { s.windows[pl.window] with
                outcomes := outcomesAfter s.windows[pl.window].outcomes state }
          store.wrapSeq := s.store.wrapSeq.set pl.window seq
          contexts := s.contexts.filter fun x => !(x.window == pl.window && x.slot == pl.slot) }

/-- R29, R33, R34, R76, R84, R96, R97, Table 13-2: a trailer-line burst for a slot without a context is
answered EXPIRED from the slot's entry, which leaves the list, or ORPHAN when there is none, with the
writer reference and the length of the close word written in line beat 0. -/
def Obligations.TrailerBurstWithoutContext : Prop :=
  ∀ (burst : WireBurst) (d : BurstDesc) (rest : List BurstDesc) (pl : Placement) (s : State),
    PassingCapture s d rest burst pl → s.part.state = .active → pl.isTrailer = true →
    NoContext s pl →
      let word := writtenCloseWord d burst
      let sent := fun (t : Trailer) =>
        { s with
          writePath.awaiting := rest
          ports.dramWrite := some (composedBurst d (trailerPart d.extent t) false)
          windows :=
            s.windows.set pl.window
              { s.windows[pl.window] with
                outcomes := outcomesAfter s.windows[pl.window].outcomes t.state } }
      let answer : Trailer :=
        { state := .orphan, window := pl.window, rejectCount := 0#4
          flags := wordFlags word pl.record.capacity
          slot := pl.slot, keyId := 0#64, counter := 0xFFFFFFFF#32, digitCount := 0x00#8
          till := 0x00#8, kind := 0x00#8
          declared := BitVec.ofNat 8 (lengthTaken word.length pl.record.capacity)
          masked := List.replicate 20 0xF#4, writerRef := word.writerRef, openTick := 0#32
          closeTick := s.time.ticks, coverage := 0#32, wrapSeq := s.store.wrapSeq[pl.window]
          tag := 0#64 }
      (∀ (older newer : List ExpiredEntry) (e : ExpiredEntry), s.expired = older ++ e :: newer →
        e.window = pl.window → e.slot = pl.slot →
        (∀ x ∈ newer, ¬ (x.window = pl.window ∧ x.slot = pl.slot)) →
          exec (.writeDataBurst burst) s = .next
            { sent
                { answer with
                  state := .expired
                  flags :=
                    answer.flags |||
                      (match e.cause with
                        | .timeout => 0x0100#16
                        | .channelReset => 0x0200#16
                        | .tamper => 0x0400#16)
                  keyId := e.keyId
                  counter := BitVec.ofNat 32 e.counter
                  openTick := e.openTick
                  closeTick := e.endTick
                  coverage := e.coverage } with
              expired := older ++ newer }) ∧
      ((∀ x ∈ s.expired, ¬ (x.window = pl.window ∧ x.slot = pl.slot)) →
        exec (.writeDataBurst burst) s = .next (sent answer))

/-! ### Trailers (section 5) -/

/-- R72, R73, R74, R91, R92, R93, R94, R95: the state, the fields, the flags and the tag of a trailer
composed at close. -/
def Obligations.CloseTrailerFields : Prop :=
  ∀ (c : Context) (w : CloseWord) (capacity : Nat) (now : Tick) (seq : BitVec 32),
    let t := closeTrailer c w capacity now seq
    let length := lengthTaken w.length capacity
    (t.state =
      if w.code = 0x02#8 then .abandoned
      else if c.torn then .torn
      else if ∃ j < length, c.coverage.getLsbD j = false then .short else .wrapped) ∧
    t.flags =
      (if c.inspection = none then 0x0001#16 else 0#16) ||| shownFlags c |||
        (if (List.range 32).any fun j => decide (length ≤ j) && c.coverage.getLsbD j then 0x0010#16
          else 0#16) |||
        wordFlags w capacity ∧
    t =
      { state := t.state, flags := t.flags, tag := t.tag
        window := c.window, rejectCount := c.rejectCount, slot := c.slot, keyId := c.keyId
        counter := BitVec.ofNat 32 c.counter
        digitCount := (c.inspection.map (·.digitCount)).getD 0x00#8
        till := (c.inspection.map (·.till)).getD 0x00#8
        kind := (c.inspection.map (·.kind)).getD 0x00#8
        declared := BitVec.ofNat 8 length
        masked := (c.inspection.map (·.masked)).getD (List.replicate 20 0xF#4)
        writerRef := w.writerRef, openTick := c.openTick, closeTick := now
        coverage := c.coverage, wrapSeq := seq } ∧
    (t.state ≠ .wrapped → t.tag = 0#64) ∧
    (t.state = .wrapped →
      let bytes := { t with tag := 0#64 }.bytes
      let term := fun k =>
        encipher c.ak
          (blockOfBytes ((bytes.drop (16 * k)).take 16) ^^^
            positionBlock (32 + k) c.window.val c.slot c.counter c.keyId)
      t.tag =
        (encipher c.ak (c.tagSum ^^^ term 0 ^^^ term 1 ^^^ term 2 ^^^ term 3)).extractLsb' 64 64)

/-- R102: the bounds of a trailer composed at close, for a context as R66, R69 and R129 leave it. -/
def Obligations.CloseTrailerBounds : Prop :=
  ∀ (c : Context) (w : CloseWord) (capacity : Nat) (now : Tick) (seq : BitVec 32),
    1 ≤ capacity → capacity ≤ 28 → c.counter ≤ 1048575 →
    (∀ j, capacity ≤ j → c.coverage.getLsbD j = false) →
    c.inspection.isSome = c.coverage.getLsbD 0 →
    (∀ r ∈ c.inspection, ∃ (inspects : Bool) (plain : Block), r = inspectionOf inspects plain) →
      let t := closeTrailer c w capacity now seq
      1 ≤ t.declared.toNat ∧ t.declared.toNat ≤ capacity ∧
      t.counter.toNat ≤ 1048575 ∧
      (t.digitCount = 0x00#8 ∧ t.masked = List.replicate 20 0xF#4 ∨
        12 ≤ t.digitCount.toNat ∧ t.digitCount.toNat ≤ 19 ∧ t.masked.length = 20) ∧
      (∀ j, capacity ≤ j → t.coverage.getLsbD j = false) ∧
      (t.tag ≠ 0#64 → t.state = .wrapped) ∧
      (t.state = .wrapped →
        (∀ j < t.declared.toNat, t.coverage.getLsbD j = true) ∧ t.flags.getLsbD 0 = false) ∧
      t.flags.toNat < 0x0100

/-- R88, R89, R183, Tables 5-2 and 13-3: a trailer is 64 bytes, every field stands at the bytes that
Table 13-3 gives it, with the state codes of Table 5-2 and the most significant byte first, and the
bytes tell every field: no two different trailers have the same bytes. -/
def Obligations.TrailerBytesTellEveryField : Prop :=
  ∀ t : Trailer, t.masked.length = 20 → t.slot < 65536 →
    let number := numberAt t.bytes
    t.bytes.length = 64 ∧
    byteAt t.bytes 0 = 0x01#8 ∧
    byteAt t.bytes 1 =
      (match t.state with
        | .inProgress => 0x01#8
        | .wrapped => 0x02#8
        | .short => 0x03#8
        | .torn => 0x04#8
        | .abandoned => 0x05#8
        | .expired => 0x06#8
        | .orphan => 0x07#8
        | .fault => 0x0F#8) ∧
    number 2 1 = t.window.val ∧ number 3 1 = t.rejectCount.toNat ∧ number 4 2 = t.flags.toNat ∧
    number 6 2 = t.slot ∧ number 8 8 = t.keyId.toNat ∧ number 16 4 = t.counter.toNat ∧
    byteAt t.bytes 20 = t.digitCount ∧ byteAt t.bytes 21 = t.till ∧
    byteAt t.bytes 22 = t.kind ∧ byteAt t.bytes 23 = t.declared ∧
    (∀ i < 10,
      byteAt t.bytes (24 + i) = t.masked.getD (2 * i) 0#4 ++ t.masked.getD (2 * i + 1) 0#4) ∧
    number 34 6 = t.writerRef.toNat ∧ number 40 4 = t.openTick.toNat ∧
    number 44 4 = t.closeTick.toNat ∧ number 48 4 = t.coverage.toNat ∧
    number 52 4 = t.wrapSeq.toNat ∧ number 56 8 = t.tag.toNat ∧
    (∀ u : Trailer, u.masked.length = 20 → u.slot < 65536 → t.bytes = u.bytes → t = u)

/-- R36, R39: read data passes unchanged for a description without a synthesized trailer; otherwise the
trailer's beats are sent in the order of the READ, each byte inverted where read inversion asks for
it. -/
def Obligations.ReadDataPassedOrReplaced : Prop :=
  ∀ (beats : List Beat) (d : ReadDesc) (rest : List ReadDesc) (s : State), s.reads = d :: rest →
    (d.answer = none →
      exec (.readDataBurst beats) s = .next
        { s with reads := rest, ports.readData := some beats }) ∧
    (∀ t : Trailer, d.answer = some t →
      exec (.readDataBurst beats) s = .next
        { s with
          reads := rest
          ports.readData :=
            some ((List.range d.burst.extent.beats).map fun k =>
              ((t.bytes.drop (8 * readBeat d.burst.extent d.order d.startBeat.toNat k)).take 8).map
                (readByte d.burst.readInversion)) })

/-- R36, R37, R38, R99, R100: the trailer synthesized for a line when a READ is taken: IN_PROGRESS from
the open context in ACTIVE, FAULT in FAULT, and none in every other case. -/
def Obligations.SynthesizedTrailers : Prop :=
  (∀ (s : State) (line : Nat) (pl : Placement) (c : Context),
    placeLine s line = some pl → pl.isTrailer = true → s.part.state = .active →
    findContext s.contexts pl.window pl.slot = some c →
      synthesizedFor s (.at line) = some
        { state := .inProgress, window := c.window, rejectCount := c.rejectCount
          flags := shownFlags c, slot := c.slot, keyId := c.keyId
          counter := BitVec.ofNat 32 c.counter
          digitCount := (c.inspection.map (·.digitCount)).getD 0x00#8
          till := (c.inspection.map (·.till)).getD 0x00#8
          kind := (c.inspection.map (·.kind)).getD 0x00#8
          declared := 0x00#8
          masked := (c.inspection.map (·.masked)).getD (List.replicate 20 0xF#4)
          writerRef := 0#48, openTick := c.openTick, closeTick := 0#32, coverage := c.coverage
          wrapSeq := s.store.wrapSeq[c.window], tag := 0#64 }) ∧
  (∀ (s : State) (line : Nat) (pl : Placement),
    placeLine s line = some pl → pl.isTrailer = true → s.part.state = .fault →
      synthesizedFor s (.at line) = some
        { state := .fault, window := pl.window, rejectCount := 0#4, flags := 0#16, slot := pl.slot
          keyId := 0#64, counter := 0#32, digitCount := 0x00#8, till := 0x00#8, kind := 0x00#8
          declared := 0x00#8, masked := List.replicate 20 0x0#4, writerRef := 0#48
          openTick := 0#32, closeTick := 0#32, coverage := 0#32, wrapSeq := 0#32, tag := 0#64 }) ∧
  (∀ (s : State) (place : LinePlace),
    (s.part.state ≠ .active ∧ s.part.state ≠ .fault ∨
      (∀ line, place ≠ .at line) ∨
      (∃ line, place = .at line ∧ placeLine s line = none) ∨
      (∃ line pl, place = .at line ∧ placeLine s line = some pl ∧ pl.isTrailer = false) ∨
      (∃ line pl, place = .at line ∧ placeLine s line = some pl ∧ s.part.state = .active ∧
        NoContext s pl)) →
      synthesizedFor s place = none)

/-! ### Card number inspection and the cipher (sections 6 and 7) -/

/-- R106 to R111, R113: the result of inspecting a descriptor block. The count and digits decide
readability; the check sum counts odd places from the right as they stand and even places doubled, less
9 when above 9; the masked number keeps the first six and the last four digits. -/
def Obligations.CardInspectionResult : Prop :=
  (∀ bytes : List Byte, bytes.length = 16 →
    let n := (byteAt bytes 1).toNat
    let digit := fun i => (digitField bytes).getD i 0#4
    let place := fun j => (digit (n - j)).toNat
    let sum :=
      ((List.range n).map fun j =>
        if j % 2 = 0 then place (j + 1)
        else if 2 * place (j + 1) > 9 then 2 * place (j + 1) - 9 else 2 * place (j + 1)).sum
    ((12 ≤ n ∧ n ≤ 19 ∧ ∀ i < n, (digit i).toNat ≤ 9) →
      inspectBytes bytes =
        { digitCount := byteAt bytes 1, kind := byteAt bytes 0, till := byteAt bytes 15
          unreadable := false, checkDigitFail := decide (¬ 10 ∣ sum)
          masked :=
            (List.range 20).map fun i =>
              if i < 6 then digit i
              else if i < n - 4 then 0xA#4 else if i < n then digit i else 0xF#4 }) ∧
    (¬ (12 ≤ n ∧ n ≤ 19 ∧ ∀ i < n, (digit i).toNat ≤ 9) →
      inspectBytes bytes =
        { digitCount := 0x00#8, kind := byteAt bytes 0, till := byteAt bytes 15
          unreadable := true, checkDigitFail := false, masked := List.replicate 20 0xF#4 })) ∧
  (∀ plain : Block,
    inspectionOf true plain = inspectBytes (bytesOfBlock plain) ∧
    inspectionOf false plain =
      { digitCount := 0x00#8, kind := 0x00#8, till := 0x00#8, unreadable := false
        checkDigitFail := false, masked := List.replicate 20 0xF#4 })

/-- R116, R118: under every key the block cipher is one-to-one and onto, with E inverse of E giving back
every block; so the transport unwrap recovers every base key. -/
def Obligations.CipherIsAPermutation : Prop :=
  ∀ key x : Block,
    decipher key (encipher key x) = x ∧ encipher key (decipher key x) = x ∧
    transportUnwrap key (encipher key x) = x

/-! ### Key positions and the derivation unit (section 8) -/

/-- R139 to R142: with no operation in flight in ACTIVE, a pending key load is taken up first; otherwise
the first position after the pointer, modulo 16, that needs a refill has its counter reserved and N
raised; otherwise the unit is idle. -/
def Obligations.DerivationUnitTakesUpNext : Prop :=
  ∀ s : State,
    ((s.part.state ≠ .active ∨ s.derivation.inFlight ≠ none) → takeUpNext s = s) ∧
    (s.part.state = .active → s.derivation.inFlight = none →
      (∀ p b, s.derivation.pendingLoad = some (p, b) →
        takeUpNext s =
          { s with
            derivation :=
              { s.derivation with inFlight := some (.unwrap p (some b)), pendingLoad := none } }) ∧
      (s.derivation.pendingLoad = none →
        ((∀ p, ¬ NeedsRefill s p) → takeUpNext s = s) ∧
        (∀ (k : Nat) (p : Fin 16), k < 16 → p.val = (s.derivation.pointer.val + 1 + k) % 16 →
          NeedsRefill s p →
          (∀ (j : Nat) (q : Fin 16), j < k → q.val = (s.derivation.pointer.val + 1 + j) % 16 →
            ¬ NeedsRefill s q) →
          (∀ key, s.store.positions[p].baseKey = some key →
            takeUpNext s =
              { s with
                store.positions :=
                  s.store.positions.set p
                    { s.store.positions[p] with next := s.store.positions[p].next + 1 }
                derivation :=
                  { s.derivation with
                    pointer := p
                    inFlight :=
                      some (.refill p s.store.positions[p].next s.store.positions[p].generation
                        (some (key, s.store.positions[p].keyId))) } }))))

/-- R120, R127, R132, R134, R143: at the completion of a refill the entry derived for its counter joins
the pool when the generation still matches and the position is READY or ACTIVE, and is discarded
otherwise, or when tamper has made it void; then the unit looks for its next operation. That the
position is tested for SPENT after a discard as well is the model's reading of R134, which tests at
each completion of a refill, where R143 names the test for an accepted entry alone (log entry 18,
DEDUCED). -/
def Obligations.RefillCompletes : Prop :=
  ∀ (s : State) (p : Fin 16) (n : Nat) (g : BitVec 32) (key : Option (Block × KeyId)),
    s.derivation.inFlight = some (.refill p n g key) →
      let x := s.store.positions[p]
      let ended := { s with derivation.inFlight := none }
      (∀ k i, key = some (k, i) → x.generation = g → InUse x →
        exec .refillCompletion s = .next
          (takeUpNext
            { ended with
              pools :=
                s.pools.set p
                  (s.pools[p] ++
                    [{ counter := n
                       ek := encipher k (i ++ BitVec.ofNat 32 n ++ 0x00000001#32)
                       ak := encipher k (i ++ BitVec.ofNat 32 n ++ 0x00000002#32) }]) })) ∧
      ((key = none ∨ x.generation ≠ g ∨ ¬ InUse x) →
        exec .refillCompletion s = .next
          (takeUpNext (if usedUp ended p then spentAt ended p else ended)))

/-- R118, R119, R127, R136, R177: at the completion of an unwrap the load is answered TAMPERED,
BAD_CHECK, POSITION_ACTIVE or OK in that order; at OK the position holds the block's key, ACTIVE when
its window has no ACTIVE position and READY otherwise, with its pool discarded; then the unit looks for
its next operation. -/
def Obligations.UnwrapCompletes : Prop :=
  ∀ (s : State) (p : Fin 16) (block : Option KeyBlock),
    s.derivation.inFlight = some (.unwrap p block) →
      let ended := { s with derivation.inFlight := none }
      let x := s.store.positions[p]
      (block = none →
        exec .keyLoadUnwrapCompletion s =
          .next (takeUpNext { ended with link := loadAnswered s .tampered })) ∧
      (∀ b : KeyBlock, block = some b →
        let key := decipher s.transportKey b.enciphered
        let check := (encipher key 0#128).extractLsb' 104 24
        (check ≠ b.check →
          exec .keyLoadUnwrapCompletion s =
            .next (takeUpNext { ended with link := loadAnswered s .badCheck })) ∧
        (check = b.check → x.state = .active →
          exec .keyLoadUnwrapCompletion s =
            .next (takeUpNext { ended with link := loadAnswered s .positionActive })) ∧
        (check = b.check → x.state ≠ .active →
          exec .keyLoadUnwrapCompletion s = .next
            (takeUpNext
              { ended with
                link := loadAnswered s .ok
                pools := s.pools.set p []
                store.positions :=
                  s.store.positions.set p
                    { state :=
                        if s.store.positions[partner p].state = .active then .ready else .active
                      keyId := b.keyId, baseKey := some key, check := some b.check
                      start := b.start.toNat, limit := b.limit.toNat, next := b.start.toNat
                      generation := x.generation + 1 } })))

/-- R180: the checks of a KEY LOAD in order, each with its answer and without any change; a load that
passes them all sets the mark, holds BUSY and is pending for the derivation unit. -/
def Obligations.KeyLoadChecksInOrder : Prop :=
  ∀ (position : Byte) (b : KeyBlock) (s : State), LinkFree s →
    let refused := fun code => Host.Outcome.next { s with link := answered s code 0x10#8 }
    (16 ≤ position.toNat → exec (.keyLoad position b) s = refused .badParam) ∧
    (∀ p : Fin 16, p.val = position.toNat →
      (HoldsRecords s → ¬ Enabled s (ownerWindow p) →
        exec (.keyLoad position b) s = refused .badParam) ∧
      ((HoldsRecords s → Enabled s (ownerWindow p)) → s.part.state ≠ .active →
        exec (.keyLoad position b) s = refused .notActive) ∧
      (Enabled s (ownerWindow p) → s.part.state = .active →
        (s.store.latch = true → exec (.keyLoad position b) s = refused .tampered) ∧
        (s.store.latch = false →
          (s.store.positions[p].state = .active →
            exec (.keyLoad position b) s = refused .positionActive) ∧
          (s.store.positions[p].state ≠ .active →
            (b.keyId = 0#64 → exec (.keyLoad position b) s = refused .badParam) ∧
            (b.keyId ≠ 0#64 →
              ((∃ q : Fin 16, q ≠ p ∧ s.store.positions[q].state ≠ .empty ∧
                  s.store.positions[q].keyId = b.keyId) →
                exec (.keyLoad position b) s = refused .duplicateId) ∧
              ((∀ q : Fin 16, q ≠ p → s.store.positions[q].state ≠ .empty →
                  s.store.positions[q].keyId ≠ b.keyId) →
                (¬ (b.start.toNat ≤ b.limit.toNat ∧ b.limit.toNat ≤ 1048575) →
                  exec (.keyLoad position b) s = refused .badRange) ∧
                (b.start.toNat ≤ b.limit.toNat → b.limit.toNat ≤ 1048575 →
                  exec (.keyLoad position b) s = .next
                    (takeUpNext
                      { s with
                        link :=
                          { frame := []
                            answer := { code := .busy, echo := 0x10#8, data := [] }
                            loadInProgress := true }
                        derivation.pendingLoad := some (p, b) }))))))))

/-- R137, R138, R181: KEY ERASE takes any position to EMPTY in ACTIVE and FAULT, with rollover when it
was ACTIVE; KEY SWITCH in ACTIVE turns an enabled window's ACTIVE position SPENT and its READY partner
ACTIVE, and is answered NO_STANDBY without any change in every other case. -/
def Obligations.KeyEraseAndKeySwitch : Prop :=
  (∀ (position : Byte) (p : Fin 16) (s : State), LinkFree s → p.val = position.toNat →
    s.part.state = .active ∨ s.part.state = .fault →
      let x := s.store.positions[p]
      let erased := s.store.positions.set p (takenEmpty x)
      exec (.keyErase position) s = .next
        (takeUpNext
          { s with
            link := answered s .ok 0x11#8
            pools := s.pools.set p []
            store.positions := if x.state = .active then promoted p erased else erased
            part.notices :=
              if x.state = .active then noticesAfterRollover s p else s.part.notices })) ∧
  (∀ (window : Byte) (w : Fin 8) (s : State), LinkFree s → w.val = window.toNat →
    s.part.state = .active → Enabled s w →
      (∀ p : Fin 16, TheActivePosition s w p → s.store.positions[partner p].state = .ready →
        exec (.keySwitch window) s = .next
          (takeUpNext
            { s with
              link := answered s .ok 0x12#8
              pools := s.pools.set p []
              store.positions :=
                (s.store.positions.set p (turnedSpent s.store.positions[p])).set (partner p)
                  { s.store.positions[partner p] with state := .active } })) ∧
      ((∀ p : Fin 16, ownerWindow p = w →
          ¬ (s.store.positions[p].state = .active ∧
            s.store.positions[partner p].state = .ready)) →
        exec (.keySwitch window) s = .next { s with link := answered s .noStandby 0x12#8 }))

/-! ### Part states, start-up and tamper (sections 10 and 11) -/

/-- R3, R8, R43, R58, R87, R139, R152, R158, R166, R176: part reset takes the part to RESET from every
state and sets every block as its section states; the retained store, the transport key and the levels
of the incoming lines stand. The model's choices: what went out last is forgotten (log entry 4), the
incoming lines stand as they are (log entry 3), the waiting descriptions are dropped (log entry 14,
DEDUCED), and a loss or damage of the store comes with the reset and changes the store alone (log entry
10). -/
def Obligations.PartResetSweepsEveryBlock : Prop :=
  ∀ (s : State) (contents : RetainedStore),
    let after : State :=
      { tracker :=
          { banks := Vector.replicate 16 .closed
            mode :=
              { burstMode := .fixed8, burstOrder := .sequential, writeCheck := false
                commandParity := false, dataMask := false, writeInversion := false
                readInversion := false }
            state := .tracking, rowReopen := 0#16, closedBankAccess := 0#16
            refreshWithOpen := 0#16 }
        writePath :=
          { alertCauses := 0#3, checkFails := 0#16, parityFails := 0#16, ownAlert := false
            pulses := 0, awaiting := [] }
        reads := []
        windows :=
          Vector.replicate 8
            { record := none, freeze := { management := false, tamper := false }
              outcomes :=
                { wrapped := 0#32, short := 0#32, torn := 0#32, abandoned := 0#32
                  expired := 0#32, orphan := 0#32 }
              blanked := 0#32, lastBlank := none }
        contexts := [], expired := [], pools := Vector.replicate 16 []
        derivation := { inFlight := none, pendingLoad := none, pointer := 15 }
        transportKey := s.transportKey
        time := { prescaler := none, count := 0, ticks := 0#32 }
        part :=
          { state := .reset, notices := 0#7, storeOutcome := .notChecked, tamperTaken := false
            mismatch := false }
        loader := { outcome := .pending, workingCopy := [] }
        link :=
          { frame := [], answer := { code := .ok, echo := 0x00#8, data := [] }
            loadInProgress := false }
        store := s.store, inputs := s.inputs
        ports := { dramCommand := none, dramWrite := none, readData := none, configPort := [] }
        pending := s.pending }
    exec (.partReset .kept) s = .next after ∧
    exec (.partReset (.holds contents)) s = .next { after with store := contents }

/-- R158, R162, R167: at the end of RESET an active tamper line is taken as tamper, which with the latch
already set raises TAMPER alone; then LOADING begins with a bus release and the request for offset 0. -/
def Obligations.PartResetReleaseBeginsLoading : Prop :=
  ∀ s : State, s.part.state = .reset →
    let loading := fun t : State =>
      Host.Outcome.next
        { t with part.state := .loading, ports.configPort := [.busRelease, .readRequest 0] }
    (s.inputs.tamperLine = false → exec .partResetRelease s = loading s) ∧
    (s.inputs.tamperLine = true → s.store.latch = true →
      exec .partResetRelease s =
        loading
          { s with
            part := { s.part with notices := s.part.notices ||| 0x08#7, tamperTaken := true } }) ∧
    (s.inputs.tamperLine = true → s.store.latch = false → s.expired.length ≤ 16 →
      exec .partResetRelease s = loading (tampered s))

/-- R50, R80, R127, R149, R158, R162: a change of the tamper line to active is not seen in RESET; with
the latch set it raises TAMPER alone; with the latch clear it sets the latch, empties every position
and pool, drops a pending load with the answer TAMPERED, voids the operation in flight, ends every
context and freezes every enabled window. -/
def Obligations.TamperDestroysKeysAndFreezes : Prop :=
  ∀ s : State, s.inputs.tamperLine = false →
    let t := { s with inputs.tamperLine := true }
    (s.part.state = .reset → exec .tamper s = .next t) ∧
    (s.part.state ≠ .reset → s.store.latch = true →
      exec .tamper s = .next
        { t with
          part := { s.part with notices := s.part.notices ||| 0x08#7, tamperTaken := true } }) ∧
    (s.part.state ≠ .reset → s.store.latch = false → s.expired.length ≤ 16 →
      exec .tamper s = .next (tampered t))

/-- R45, R168, R169, R170: the checks of a read image of 138 bytes in their order, each naming its
outcome; a VALID image has every enabled record well formed and no line in two enabled windows. -/
def Obligations.ImageChecksInOrder : Prop :=
  ∀ image : List Byte, image.length = 138 →
    let signature : Prop := byteAt image 0 = 0x49#8 ∧ byteAt image 1 = 0x57#8
    let version : Prop := byteAt image 2 = 0x01#8
    let code : Prop :=
      (crc 0x1021#16 0xFFFF#16 (image.take 136)).toNat =
        (byteAt image 136).toNat * 256 + (byteAt image 137).toNat
    let revision : Prop := (byteAt image 3).toNat / 16 = 2
    let bad := fun w : Fin 8 =>
      (imageRecord image w).enabled = true ∧ ¬ RecordHolds (imageRecord image w)
    (¬ signature → checkImage image = .signature) ∧
    (signature → ¬ version → checkImage image = .version) ∧
    (signature → version → ¬ code → checkImage image = .check) ∧
    (signature → version → code → ¬ revision → checkImage image = .revision) ∧
    (signature → version → code → revision →
      (∀ w, bad w → (∀ v, v < w → ¬ bad v) → checkImage image = .window w) ∧
      ((∀ w, ¬ bad w) →
        (∀ i j, i < j → SharesLine (imageRecord image i) (imageRecord image j) →
          (∀ a b, a < b → (a < i ∨ a = i ∧ b < j) →
            ¬ SharesLine (imageRecord image a) (imageRecord image b)) →
          checkImage image = .overlap i j) ∧
        ((∀ i j, i < j → ¬ SharesLine (imageRecord image i) (imageRecord image j)) →
          checkImage image = .valid))) ∧
    (checkImage image = .valid →
      ∀ (v w : Fin 8) (line : Nat), v ≠ w → (imageRecord image v).enabled = true →
        (imageRecord image w).enabled = true → (imageRecord image v).covers line = true →
        (imageRecord image w).covers line = false)

/-- R58, R152, R167, R171, R172: at the end of the transfer the part leaves LOADING. A VALID image gives
the windows their records, with TAMPER when the latch is set, and the time base its P, and SELF-TEST
begins with the known-answer test; any other outcome leads to PASS-ONLY with P = 25,000 and IMAGE
raised. -/
def Obligations.ImageTransferDecidesTheOutcome : Prop :=
  ∀ s : State, s.part.state = .loading → s.inputs.clockRunning = true →
    let failed := fun outcome =>
      Host.Outcome.next
        { leftLoading s .passOnly outcome 25000 with
          part := { s.part with state := .passOnly, notices := s.part.notices ||| 0x01#7 } }
    exec (.imageTransferComplete none) s = failed .absent ∧
    (∀ bytes : List Byte,
      let image := (bytes ++ List.replicate 138 0xFF#8).take 138
      (checkImage image ≠ .valid →
        exec (.imageTransferComplete (some bytes)) s = failed (checkImage image)) ∧
      (checkImage image = .valid →
        exec (.imageTransferComplete (some bytes)) s = .next
          { leftLoading s .selfTest .valid
              ((byteAt image 4).toNat * 256 + (byteAt image 5).toNat + 1) with
            derivation.inFlight := some .knownAnswer
            windows :=
              Vector.ofFn fun w : Fin 8 =>
                { record := some (imageRecord image w)
                  freeze :=
                    { management := false
                      tamper := s.store.latch && (imageRecord image w).enabled }
                  outcomes :=
                    { wrapped := 0#32, short := 0#32, torn := 0#32, abandoned := 0#32
                      expired := 0#32, orphan := 0#32 }
                  blanked := 0#32, lastBlank := none } }))

/-- R148, R159, R160, R161: a failed known-answer test leads to FAULT; a passed one to the marker check.
With the marker absent the store is lost: positions EMPTY with generation 0, wrap sequences 0, the latch
decided afresh with the freeze causes to match, STORE raised, and ACTIVE entered; with it present the
check of the first READY or ACTIVE position begins, or SELF-TEST ends when there is none. -/
def Obligations.KnownAnswerTestCompletes : Prop :=
  ∀ s : State, s.part.state = .selfTest → s.derivation.inFlight = some .knownAnswer →
    s.derivation.pendingLoad = none → (∀ p : Fin 16, s.pools[p] = []) →
    (∀ w : Fin 8, ¬ (s.store.positions[positionA w].state = .active ∧
      s.store.positions[positionB w].state = .active)) →
      let idleUnit := { s with derivation.inFlight := none }
      exec (.knownAnswerTestComplete false) s = .next
        { idleUnit with
          part := { s.part with state := .fault, notices := s.part.notices ||| 0x04#7 } } ∧
      (s.store.marker = false →
        let latch := s.inputs.tamperLine || s.part.tamperTaken
        exec (.knownAnswerTestComplete true) s = .next
          { idleUnit with
            store :=
              { marker := true, latch := latch, wrapSeq := Vector.replicate 8 0#32
                positions :=
                  Vector.replicate 16
                    { state := .empty, keyId := 0#64, baseKey := none, check := none, start := 0
                      limit := 0, next := 0, generation := 0#32 } }
            windows :=
              Vector.ofFn fun w : Fin 8 =>
                { s.windows[w] with
                  freeze :=
                    { s.windows[w].freeze with
                      tamper := latch && (s.windows[w].freeze.tamper || windowEnabled s w) } }
            part :=
              { s.part with
                state := .active
                storeOutcome := .lost
                notices :=
                  s.part.notices |||
                    (if ∃ w : Fin 8, windowEnabled s w = true then 0x22#7 else 0x02#7) } }) ∧
      (s.store.marker = true →
        (∀ (p : Fin 16) (key : Block), InUse s.store.positions[p] →
          (∀ q : Fin 16, q < p → ¬ InUse s.store.positions[q]) →
          s.store.positions[p].baseKey = some key →
            exec (.knownAnswerTestComplete true) s = .next
              { s with derivation.inFlight := some (.recompute p (some key)) }) ∧
        ((∀ p : Fin 16, ¬ InUse s.store.positions[p]) →
          exec (.knownAnswerTestComplete true) s = .next
            (enteredActive idleUnit
              (if s.part.mismatch then .positionsErased else .held))))

/-- R119, R147, R159, R160: at the completion of a recomputation the position is kept on a match and
when tamper has made the result void, and taken to EMPTY with STORE raised on a mismatch; then the next
READY or ACTIVE position is checked, and after the last one SELF-TEST ends in ACTIVE, HELD or
POSITIONS_ERASED. That a mismatch empties the position without rollover and raises STORE alone, the
windows being settled after the last check, is the model's reading of R147 (log entry 17, DEDUCED). -/
def Obligations.RecomputationCompletes : Prop :=
  ∀ (s : State) (p : Fin 16) (key : Option Block),
    s.part.state = .selfTest → s.derivation.inFlight = some (.recompute p key) →
    s.derivation.pendingLoad = none → (∀ q : Fin 16, s.pools[q] = []) →
    (∀ w : Fin 8, ¬ (s.store.positions[positionA w].state = .active ∧
      s.store.positions[positionB w].state = .active)) →
      let kept := { s with derivation.inFlight := none }
      let mismatched : Prop :=
        ∃ k, key = some k ∧
          some ((encipher k 0#128).extractLsb' 104 24) ≠ s.store.positions[p].check
      ∃ judged : State,
        (¬ mismatched → judged = kept) ∧
        (mismatched →
          judged =
            { kept with
              store.positions := s.store.positions.set p (takenEmpty s.store.positions[p])
              part := { s.part with notices := s.part.notices ||| 0x02#7, mismatch := true } }) ∧
        (∀ (q : Fin 16) (k : Block), p < q → InUse s.store.positions[q] →
          (∀ r : Fin 16, p < r → r < q → ¬ InUse s.store.positions[r]) →
          s.store.positions[q].baseKey = some k →
            exec .checkValueRecomputationComplete s = .next
              { judged with derivation.inFlight := some (.recompute q (some k)) }) ∧
        ((∀ q : Fin 16, p < q → ¬ InUse s.store.positions[q]) →
          exec .checkValueRecomputationComplete s = .next
            (enteredActive judged
              (if judged.part.mismatch then .positionsErased else .held)))

/-! ### The management link (section 12) -/

/-- R41, R49, R163, R165, R178, R182: where the records are loaded FREEZE adds MANAGEMENT to an enabled
window's freeze-cause set and THAW removes it; NOTICE ACK removes the causes it names and refuses an
undefined one; ALERT CLEAR empties the alert-cause record; TAMPER CLEAR, refused LINE_ACTIVE while the
line is active and NOT_ACTIVE in LOADING and SELF-TEST, clears the latch and removes TAMPER from every
window. Each changes nothing else. -/
def Obligations.FreezeAcknowledgeAndClear : Prop :=
  ∀ s : State, LinkFree s →
    (∀ (window : Byte) (w : Fin 8), w.val = window.toNat → HoldsRecords s → Enabled s w →
      exec (.freeze window) s = .next
        { s with
          link := answered s .ok 0x20#8
          windows :=
            s.windows.set w
              { s.windows[w] with
                freeze := { management := true, tamper := s.windows[w].freeze.tamper } } } ∧
      exec (.thaw window) s = .next
        { s with
          link := answered s .ok 0x21#8
          windows :=
            s.windows.set w
              { s.windows[w] with
                freeze := { management := false, tamper := s.windows[w].freeze.tamper } } }) ∧
    (∀ causes : Byte, causes.toNat < 128 →
      exec (.noticeAck causes) s = .next
        { s with
          link := answered s .ok 0x30#8
          part.notices :=
            BitVec.ofBoolListLE
              ((List.range 7).map fun i => s.part.notices.getLsbD i && !causes.getLsbD i) }) ∧
    (∀ causes : Byte, 128 ≤ causes.toNat →
      exec (.noticeAck causes) s = .next { s with link := answered s .badParam 0x30#8 }) ∧
    exec .alertClear s = .next
      { s with link := answered s .ok 0x31#8, writePath.alertCauses := 0#3 } ∧
    (s.part.state = .active ∨ s.part.state = .passOnly ∨ s.part.state = .fault →
      (s.inputs.tamperLine = true →
        exec .tamperClear s = .next { s with link := answered s .lineActive 0x32#8 }) ∧
      (s.inputs.tamperLine = false →
        exec .tamperClear s = .next
          { s with
            link := answered s .ok 0x32#8
            store.latch := false
            windows :=
              Vector.ofFn fun w : Fin 8 =>
                { s.windows[w] with
                  freeze :=
                    { management := s.windows[w].freeze.management, tamper := false } } })) ∧
    (s.part.state = .loading ∨ s.part.state = .selfTest →
      exec .tamperClear s = .next { s with link := answered s .notActive 0x32#8 }) ∧
    (noticeLine s = true ↔ s.part.notices ≠ 0#7)

/-- R54, R150, R174, R179, Tables 12-2 and 13-8 to 13-11: the codes of what is reported, and that the
status commands hold a snapshot of what they report and change nothing else; a read transaction returns
the held answer and then FFh. -/
def Obligations.StatusCommandsReport : Prop :=
  ([AnswerCode.ok, .busy, .badFrame, .badParam, .notActive, .positionActive, .badCheck, .badRange,
      .duplicateId, .tampered, .noStandby, .lineActive].map (·.code) =
    (List.range 12).map (BitVec.ofNat 8)) ∧
  ([PartState.loading, .selfTest, .active, .passOnly, .fault].map (·.code) =
    [0x01#8, 0x02#8, 0x03#8, 0x04#8, 0x05#8]) ∧
  ([ImageOutcome.pending, .valid, .absent, .signature, .version, .check, .revision].map
      (fun o => o.code :: o.windowField) =
    (List.range 7).map fun n => [BitVec.ofNat 8 n, 0xFF#8, 0xFF#8]) ∧
  (∀ v w : Fin 8,
    (ImageOutcome.window v).code = 0x07#8 ∧ (ImageOutcome.overlap v w).code = 0x08#8 ∧
    (ImageOutcome.window v).windowField = [BitVec.ofNat 8 v.val, 0xFF#8] ∧
    (ImageOutcome.overlap v w).windowField = [BitVec.ofNat 8 v.val, BitVec.ofNat 8 w.val]) ∧
  ([StoreOutcome.notChecked, .held, .positionsErased, .lost].map (·.code) =
    [0x00#8, 0x01#8, 0x02#8, 0x03#8]) ∧
  (TrackerState.tracking.code = 0x00#8 ∧ TrackerState.parityRecovery.code = 0x01#8) ∧
  ([KeyState.empty, .ready, .active, .spent].map keyStateCode =
    [0x00#8, 0x01#8, 0x02#8, 0x03#8]) ∧
  ([none, some BlankCause.fault, some .frozen, some .noKey, some .starved, some .full].map blankCode =
    [0x00#8, 0x01#8, 0x02#8, 0x03#8, 0x04#8, 0x05#8]) ∧
  ∀ s : State, LinkFree s →
    exec .status s = .next
      { s with
        link := answeredData s 0x01#8
          ([0x21#8, s.part.state.code, s.loader.outcome.code] ++ s.loader.outcome.windowField ++
            [s.part.storeOutcome.code, (if s.store.latch then 0x01#8 else 0x00#8),
             s.tracker.state.code, s.part.notices.setWidth 8, s.writePath.alertCauses.setWidth 8] ++
            bytesBE 2 s.tracker.rowReopen.toNat ++ bytesBE 2 s.tracker.closedBankAccess.toNat ++
            bytesBE 2 s.tracker.refreshWithOpen.toNat ++ bytesBE 2 s.writePath.parityFails.toNat ++
            bytesBE 2 s.writePath.checkFails.toNat ++ bytesBE 4 s.time.ticks.toNat) } ∧
    (HoldsRecords s →
      (∀ (window : Byte) (w : Fin 8) (r : WindowRecord), w.val = window.toNat →
        s.windows[w].record = some r →
          let summary : List Byte :=
            [(if r.enabled then 0x01#8 else 0x00#8) ||| (if r.inspection then 0x02#8 else 0x00#8),
             r.sizeCode] ++
              bytesBE 4 r.base.toNat ++ bytesBE 2 r.countValue.toNat ++ bytesBE 2 r.timeout.toNat ++
              bytesBE 2 r.threshold.toNat
          let x := s.windows[w]
          (r.enabled = true →
            exec (.windowStatus window) s = .next
              { s with
                link := answeredData s 0x02#8
                  (window :: summary ++
                    [(if x.freeze.management then 0x01#8 else 0x00#8) |||
                       (if x.freeze.tamper then 0x02#8 else 0x00#8),
                     BitVec.ofNat 8 (s.contexts.countP fun c => c.window == w)] ++
                    bytesBE 4 x.outcomes.wrapped.toNat ++ bytesBE 4 x.outcomes.short.toNat ++
                    bytesBE 4 x.outcomes.torn.toNat ++ bytesBE 4 x.outcomes.abandoned.toNat ++
                    bytesBE 4 x.outcomes.expired.toNat ++ bytesBE 4 x.outcomes.orphan.toNat ++
                    bytesBE 4 x.blanked.toNat ++ [blankCode x.lastBlank] ++
                    bytesBE 4 s.store.wrapSeq[w].toNat) }) ∧
          (r.enabled = false →
            exec (.windowStatus window) s = .next
              { s with
                link := answeredData s 0x02#8
                  (window :: summary ++ List.replicate 31 0x00#8 ++
                    bytesBE 4 s.store.wrapSeq[w].toNat) })) ∧
      (∀ (position : Byte) (p : Fin 16), p.val = position.toNat →
        exec (.keyStatus position) s = .next
          { s with
            link := answeredData s 0x03#8
              (keyStateCode s.store.positions[p].state ::
                bytesBE 8 s.store.positions[p].keyId.toNat ++ bytesBE 4 s.store.positions[p].next ++
                bytesBE 4 s.store.positions[p].limit ++ [BitVec.ofNat 8 s.pools[p].length] ++
                bytesBE 4 s.store.positions[p].generation.toNat) })) ∧
    (∀ n : Nat,
      readTransaction s 0x36#7 n =
        some
          (([s.link.answer.code.code, s.link.answer.echo,
              BitVec.ofNat 8 s.link.answer.data.length] ++
              s.link.answer.data ++ List.replicate n 0xFF#8).take n))

/-- R156, R174, R175, R177: a frame that is not acknowledged changes nothing, and none is acknowledged
in RESET or, by the model's reading of R156, while the reference clock is stopped (log entry 19,
DEDUCED); one that ends while a key
load is in progress is answered BUSY with its own code; one that fails R175 is answered BAD_FRAME with
its own code; in neither case is anything carried out. -/
def Obligations.BusyAndBadFrames : Prop :=
  ∀ (c : Instr) (code : Byte) (params : List Byte) (s : State),
    c.wellFormed = true → frameBytes c = some (code :: params) →
      (s.part.state = .reset ∨ s.inputs.clockRunning = false → exec c s = .next s) ∧
      (s.part.state ≠ .reset → s.inputs.clockRunning = true → s.link.loadInProgress = true →
        exec c s = .next { s with link := answered s .busy code }) ∧
      (LinkFree s → c = .badFrame (code :: params) →
        exec c s = .next { s with link := answered s .badFrame code })

/-- R178, Table 12-3: a window above 7, a position above 15 and, where the records are loaded, a
disabled window are answered BAD_PARAM; a command not carried out in the part state is answered
NOT_ACTIVE; nothing else changes. -/
def Obligations.RangeAndStateRefusals : Prop :=
  ∀ s : State, LinkFree s →
    let refused := fun code echo => Host.Outcome.next { s with link := answered s code echo }
    (∀ n : Byte, 8 ≤ n.toNat →
      exec (.windowStatus n) s = refused .badParam 0x02#8 ∧
      exec (.keySwitch n) s = refused .badParam 0x12#8 ∧
      exec (.freeze n) s = refused .badParam 0x20#8 ∧
      exec (.thaw n) s = refused .badParam 0x21#8) ∧
    (∀ n : Byte, 16 ≤ n.toNat →
      exec (.keyStatus n) s = refused .badParam 0x03#8 ∧
      exec (.keyErase n) s = refused .badParam 0x11#8) ∧
    (∀ (n : Byte) (w : Fin 8), w.val = n.toNat →
      (HoldsRecords s → ¬ Enabled s w →
        exec (.keySwitch n) s = refused .badParam 0x12#8 ∧
        exec (.freeze n) s = refused .badParam 0x20#8 ∧
        exec (.thaw n) s = refused .badParam 0x21#8) ∧
      (¬ HoldsRecords s →
        exec (.windowStatus n) s = refused .notActive 0x02#8 ∧
        exec (.keySwitch n) s = refused .notActive 0x12#8 ∧
        exec (.freeze n) s = refused .notActive 0x20#8 ∧
        exec (.thaw n) s = refused .notActive 0x21#8) ∧
      (s.part.state = .selfTest ∨ s.part.state = .fault → Enabled s w →
        exec (.keySwitch n) s = refused .notActive 0x12#8)) ∧
    (∀ n : Byte, n.toNat < 16 →
      (¬ HoldsRecords s → exec (.keyStatus n) s = refused .notActive 0x03#8) ∧
      (s.part.state ≠ .active → s.part.state ≠ .fault →
        exec (.keyErase n) s = refused .notActive 0x11#8))

/-- R174, R175, Tables 12-1 and 13-5: the code, the length and the parameters of every command's write
frame, with the fields of the key block at the bytes Table 13-5 gives; a frame names its command and no
other, with every parameter at every value; a frame that fails R175 is read as such. -/
def Obligations.FrameBytesNameTheirCommand : Prop :=
  (frameBytes .status = some [0x01#8, 0x00#8] ∧ frameBytes .alertClear = some [0x31#8, 0x00#8] ∧
    frameBytes .tamperClear = some [0x32#8, 0x00#8]) ∧
  (∀ n : Byte,
    [.windowStatus n, .keyStatus n, .keyErase n, .keySwitch n, .freeze n, .thaw n,
        .noticeAck n].map frameBytes =
      [0x02#8, 0x03#8, 0x11#8, 0x12#8, 0x20#8, 0x21#8, 0x30#8].map fun code =>
        some [code, 0x01#8, n]) ∧
  (∀ (position : Byte) (b : KeyBlock), ∃ block : List Byte,
    frameBytes (.keyLoad position b) = some ([0x10#8, 37#8, position] ++ block) ∧
    block.length = 36 ∧ numberAt block 0 8 = b.keyId.toNat ∧ numberAt block 8 4 = b.start.toNat ∧
    numberAt block 12 4 = b.limit.toNat ∧ numberAt block 16 16 = b.enciphered.toNat ∧
    numberAt block 32 3 = b.check.toNat ∧ byteAt block 35 = b.unread) ∧
  ∀ (c : Instr) (bytes : List Byte), c.wellFormed = true → frameBytes c = some bytes →
    writeTransaction 0x36#7 bytes = some c ∧
    (∀ address : BitVec 7, address ≠ 0x36#7 → writeTransaction address bytes = none) ∧
    (frameAccepted bytes = true ↔ ∀ b, c ≠ .badFrame b)

/-! ### Invariants and rules of the whole part -/

/-- R62, R77, R87: every step keeps at most 32 contexts in order, none twice, and at most 16 entries,
none twice and none for a slot with an open context. -/
def Obligations.StepsKeepTheContextTable : Prop :=
  ∀ s t : State, ContextTableInv s → step s = .next t → ContextTableInv t

/-- R21, R45, R57, R66, R69, R85, R126, R139, R141, R151, R152, R159, R177: every step keeps what the
part state says of every block, and every context in an enabled window with coverage below its body
capacity. -/
def Obligations.StepsKeepThePhaseAndCoverage : Prop :=
  ∀ s t : State, PhaseInv s → CoverageInv s → step s = .next t → PhaseInv t ∧ CoverageInv t

/-- R129 to R136, R149, R160, R162: every step that does not put other contents under the retained
store's marker (log entry 10; a loss of the store, which leaves no marker, may come) keeps the key table
in order (states, identifiers, counters, pools, one ACTIVE position in a window) and, while the tamper
latch is set, every position EMPTY and every enabled window frozen. -/
def Obligations.StepsKeepTheKeyTable : Prop :=
  ∀ s t : State, StoreInv s → step s = .next t → StoreInv t

/-- The invariants hold of the state right after reset (R3, R58, R87, R139, R152, R158); the store of a
first start is the model's choice (log entry 1). -/
def Obligations.InvariantsHoldAtReset : Prop :=
  ContextTableInv State.reset ∧ PhaseInv State.reset ∧ CoverageInv State.reset ∧
    StoreInv State.reset

/-- R157, Table 10-1: the part state changes only as the table gives: to RESET at part reset, RESET to
LOADING at its release, LOADING to SELF-TEST or PASS-ONLY at the end of the transfer, and SELF-TEST to
FAULT or ACTIVE at a completion in the derivation unit. That every command completes in every state,
with those that the part's own state rules out changing nothing, is the model's choice (log entry
9). -/
def Obligations.PartStateTransitions : Prop :=
  ∀ (c : Instr) (s : State), ∃ t : State,
    exec c s = .next t ∧
    (t.part.state = s.part.state ∨
      (∃ store, c = .partReset store ∧ t.part.state = .reset) ∨
      (c = .partResetRelease ∧ s.part.state = .reset ∧ t.part.state = .loading) ∨
      (∃ image, c = .imageTransferComplete image ∧ s.part.state = .loading ∧
        (t.part.state = .selfTest ∧ t.loader.outcome = .valid ∨
          t.part.state = .passOnly ∧ t.loader.outcome ≠ .valid)) ∨
      (s.part.state = .selfTest ∧ c = .knownAnswerTestComplete false ∧ t.part.state = .fault) ∨
      (s.part.state = .selfTest ∧ t.part.state = .active ∧
        (c = .knownAnswerTestComplete true ∨ c = .checkValueRecomputationComplete)))

/-- R44, R48, R55, R56, R117: rules over every command. The transport key never changes; a window's
record changes only at the end of the image transfer and at part reset; a wrap sequence changes only at
a write burst, by one, and where the store is lost or replaced; no context opens in a frozen window. -/
def Obligations.WholePartRules : Prop :=
  ∀ (c : Instr) (s t : State), exec c s = .next t →
    t.transportKey = s.transportKey ∧
    (∀ w : Fin 8,
      ((∀ image, c ≠ .imageTransferComplete image) → (∀ store, c ≠ .partReset store) →
        t.windows[w].record = s.windows[w].record) ∧
      ((∀ store, c ≠ .partReset store) → (∀ passed, c ≠ .knownAnswerTestComplete passed) →
        t.store.wrapSeq[w] = s.store.wrapSeq[w] ∨
          (t.store.wrapSeq[w] = s.store.wrapSeq[w] + 1 ∧ ∃ burst, c = .writeDataBurst burst)) ∧
      ((s.windows[w].freeze.management = true ∨ s.windows[w].freeze.tamper = true) →
        ∀ x ∈ t.contexts, x.window = w →
          ∃ y ∈ s.contexts, y.window = w ∧ y.slot = x.slot ∧ y.counter = x.counter))
end

