-- ==== Sys2Proof/Laws/State.lean ====
section
/-! SUPPORT. What each update of the state leaves in each field, true by unfolding and tagged for `simp`,
so that no later proof unfolds a record update. -/

namespace Sys2Proof.Machine

variable (s : State)

/-! ### `raiseNotice`: a notice cause added -/

@[simp] theorem raiseNotice_tracker (c : NoticeCause) : (raiseNotice c s).tracker = s.tracker := rfl
@[simp] theorem raiseNotice_writePath (c : NoticeCause) :
    (raiseNotice c s).writePath = s.writePath := rfl
@[simp] theorem raiseNotice_reads (c : NoticeCause) : (raiseNotice c s).reads = s.reads := rfl
@[simp] theorem raiseNotice_windows (c : NoticeCause) : (raiseNotice c s).windows = s.windows := rfl
@[simp] theorem raiseNotice_contexts (c : NoticeCause) :
    (raiseNotice c s).contexts = s.contexts := rfl
@[simp] theorem raiseNotice_expired (c : NoticeCause) : (raiseNotice c s).expired = s.expired := rfl
@[simp] theorem raiseNotice_pools (c : NoticeCause) : (raiseNotice c s).pools = s.pools := rfl
@[simp] theorem raiseNotice_derivation (c : NoticeCause) :
    (raiseNotice c s).derivation = s.derivation := rfl
@[simp] theorem raiseNotice_transportKey (c : NoticeCause) :
    (raiseNotice c s).transportKey = s.transportKey := rfl
@[simp] theorem raiseNotice_time (c : NoticeCause) : (raiseNotice c s).time = s.time := rfl
@[simp] theorem raiseNotice_part (c : NoticeCause) :
    (raiseNotice c s).part =
      { s.part with notices := s.part.notices ||| c.mask } := rfl
@[simp] theorem raiseNotice_loader (c : NoticeCause) : (raiseNotice c s).loader = s.loader := rfl
@[simp] theorem raiseNotice_link (c : NoticeCause) : (raiseNotice c s).link = s.link := rfl
@[simp] theorem raiseNotice_store (c : NoticeCause) : (raiseNotice c s).store = s.store := rfl
@[simp] theorem raiseNotice_inputs (c : NoticeCause) : (raiseNotice c s).inputs = s.inputs := rfl
@[simp] theorem raiseNotice_ports (c : NoticeCause) : (raiseNotice c s).ports = s.ports := rfl
@[simp] theorem raiseNotice_pending (c : NoticeCause) : (raiseNotice c s).pending = s.pending := rfl

/-! ### `addAlert`: an alert cause added -/

@[simp] theorem addAlert_tracker (c : AlertCause) : (addAlert c s).tracker = s.tracker := rfl
@[simp] theorem addAlert_writePath (c : AlertCause) :
    (addAlert c s).writePath =
      { s.writePath with alertCauses := s.writePath.alertCauses ||| c.mask } := rfl
@[simp] theorem addAlert_reads (c : AlertCause) : (addAlert c s).reads = s.reads := rfl
@[simp] theorem addAlert_windows (c : AlertCause) : (addAlert c s).windows = s.windows := rfl
@[simp] theorem addAlert_contexts (c : AlertCause) : (addAlert c s).contexts = s.contexts := rfl
@[simp] theorem addAlert_expired (c : AlertCause) : (addAlert c s).expired = s.expired := rfl
@[simp] theorem addAlert_pools (c : AlertCause) : (addAlert c s).pools = s.pools := rfl
@[simp] theorem addAlert_derivation (c : AlertCause) :
    (addAlert c s).derivation = s.derivation := rfl
@[simp] theorem addAlert_transportKey (c : AlertCause) :
    (addAlert c s).transportKey = s.transportKey := rfl
@[simp] theorem addAlert_time (c : AlertCause) : (addAlert c s).time = s.time := rfl
@[simp] theorem addAlert_part (c : AlertCause) : (addAlert c s).part = s.part := rfl
@[simp] theorem addAlert_loader (c : AlertCause) : (addAlert c s).loader = s.loader := rfl
@[simp] theorem addAlert_link (c : AlertCause) : (addAlert c s).link = s.link := rfl
@[simp] theorem addAlert_store (c : AlertCause) : (addAlert c s).store = s.store := rfl
@[simp] theorem addAlert_inputs (c : AlertCause) : (addAlert c s).inputs = s.inputs := rfl
@[simp] theorem addAlert_ports (c : AlertCause) : (addAlert c s).ports = s.ports := rfl
@[simp] theorem addAlert_pending (c : AlertCause) : (addAlert c s).pending = s.pending := rfl

/-! ### `setWindow`: one window replaced -/

@[simp] theorem setWindow_tracker (w : Fin 8) (x : Window) :
    (setWindow w x s).tracker = s.tracker := rfl
@[simp] theorem setWindow_writePath (w : Fin 8) (x : Window) :
    (setWindow w x s).writePath = s.writePath := rfl
@[simp] theorem setWindow_reads (w : Fin 8) (x : Window) : (setWindow w x s).reads = s.reads := rfl
@[simp] theorem setWindow_windows (w : Fin 8) (x : Window) :
    (setWindow w x s).windows =
      s.windows.set w x := rfl
@[simp] theorem setWindow_contexts (w : Fin 8) (x : Window) :
    (setWindow w x s).contexts = s.contexts := rfl
@[simp] theorem setWindow_expired (w : Fin 8) (x : Window) :
    (setWindow w x s).expired = s.expired := rfl
@[simp] theorem setWindow_pools (w : Fin 8) (x : Window) : (setWindow w x s).pools = s.pools := rfl
@[simp] theorem setWindow_derivation (w : Fin 8) (x : Window) :
    (setWindow w x s).derivation = s.derivation := rfl
@[simp] theorem setWindow_transportKey (w : Fin 8) (x : Window) :
    (setWindow w x s).transportKey = s.transportKey := rfl
@[simp] theorem setWindow_time (w : Fin 8) (x : Window) : (setWindow w x s).time = s.time := rfl
@[simp] theorem setWindow_part (w : Fin 8) (x : Window) : (setWindow w x s).part = s.part := rfl
@[simp] theorem setWindow_loader (w : Fin 8) (x : Window) :
    (setWindow w x s).loader = s.loader := rfl
@[simp] theorem setWindow_link (w : Fin 8) (x : Window) : (setWindow w x s).link = s.link := rfl
@[simp] theorem setWindow_store (w : Fin 8) (x : Window) : (setWindow w x s).store = s.store := rfl
@[simp] theorem setWindow_inputs (w : Fin 8) (x : Window) :
    (setWindow w x s).inputs = s.inputs := rfl
@[simp] theorem setWindow_ports (w : Fin 8) (x : Window) : (setWindow w x s).ports = s.ports := rfl
@[simp] theorem setWindow_pending (w : Fin 8) (x : Window) :
    (setWindow w x s).pending = s.pending := rfl

/-! ### `setPosition`: one position's retained fields replaced -/

@[simp] theorem setPosition_tracker (p : Fin 16) (x : KeyPosition) :
    (setPosition p x s).tracker = s.tracker := rfl
@[simp] theorem setPosition_writePath (p : Fin 16) (x : KeyPosition) :
    (setPosition p x s).writePath = s.writePath := rfl
@[simp] theorem setPosition_reads (p : Fin 16) (x : KeyPosition) :
    (setPosition p x s).reads = s.reads := rfl
@[simp] theorem setPosition_windows (p : Fin 16) (x : KeyPosition) :
    (setPosition p x s).windows = s.windows := rfl
@[simp] theorem setPosition_contexts (p : Fin 16) (x : KeyPosition) :
    (setPosition p x s).contexts = s.contexts := rfl
@[simp] theorem setPosition_expired (p : Fin 16) (x : KeyPosition) :
    (setPosition p x s).expired = s.expired := rfl
@[simp] theorem setPosition_pools (p : Fin 16) (x : KeyPosition) :
    (setPosition p x s).pools = s.pools := rfl
@[simp] theorem setPosition_derivation (p : Fin 16) (x : KeyPosition) :
    (setPosition p x s).derivation = s.derivation := rfl
@[simp] theorem setPosition_transportKey (p : Fin 16) (x : KeyPosition) :
    (setPosition p x s).transportKey = s.transportKey := rfl
@[simp] theorem setPosition_time (p : Fin 16) (x : KeyPosition) :
    (setPosition p x s).time = s.time := rfl
@[simp] theorem setPosition_part (p : Fin 16) (x : KeyPosition) :
    (setPosition p x s).part = s.part := rfl
@[simp] theorem setPosition_loader (p : Fin 16) (x : KeyPosition) :
    (setPosition p x s).loader = s.loader := rfl
@[simp] theorem setPosition_link (p : Fin 16) (x : KeyPosition) :
    (setPosition p x s).link = s.link := rfl
@[simp] theorem setPosition_store (p : Fin 16) (x : KeyPosition) :
    (setPosition p x s).store =
      { s.store with positions := s.store.positions.set p x } := rfl
@[simp] theorem setPosition_inputs (p : Fin 16) (x : KeyPosition) :
    (setPosition p x s).inputs = s.inputs := rfl
@[simp] theorem setPosition_ports (p : Fin 16) (x : KeyPosition) :
    (setPosition p x s).ports = s.ports := rfl
@[simp] theorem setPosition_pending (p : Fin 16) (x : KeyPosition) :
    (setPosition p x s).pending = s.pending := rfl

/-! ### `setPool`: one pool replaced -/

@[simp] theorem setPool_tracker (p : Fin 16) (l : List PoolEntry) :
    (setPool p l s).tracker = s.tracker := rfl
@[simp] theorem setPool_writePath (p : Fin 16) (l : List PoolEntry) :
    (setPool p l s).writePath = s.writePath := rfl
@[simp] theorem setPool_reads (p : Fin 16) (l : List PoolEntry) :
    (setPool p l s).reads = s.reads := rfl
@[simp] theorem setPool_windows (p : Fin 16) (l : List PoolEntry) :
    (setPool p l s).windows = s.windows := rfl
@[simp] theorem setPool_contexts (p : Fin 16) (l : List PoolEntry) :
    (setPool p l s).contexts = s.contexts := rfl
@[simp] theorem setPool_expired (p : Fin 16) (l : List PoolEntry) :
    (setPool p l s).expired = s.expired := rfl
@[simp] theorem setPool_pools (p : Fin 16) (l : List PoolEntry) :
    (setPool p l s).pools =
      s.pools.set p l := rfl
@[simp] theorem setPool_derivation (p : Fin 16) (l : List PoolEntry) :
    (setPool p l s).derivation = s.derivation := rfl
@[simp] theorem setPool_transportKey (p : Fin 16) (l : List PoolEntry) :
    (setPool p l s).transportKey = s.transportKey := rfl
@[simp] theorem setPool_time (p : Fin 16) (l : List PoolEntry) :
    (setPool p l s).time = s.time := rfl
@[simp] theorem setPool_part (p : Fin 16) (l : List PoolEntry) :
    (setPool p l s).part = s.part := rfl
@[simp] theorem setPool_loader (p : Fin 16) (l : List PoolEntry) :
    (setPool p l s).loader = s.loader := rfl
@[simp] theorem setPool_link (p : Fin 16) (l : List PoolEntry) :
    (setPool p l s).link = s.link := rfl
@[simp] theorem setPool_store (p : Fin 16) (l : List PoolEntry) :
    (setPool p l s).store = s.store := rfl
@[simp] theorem setPool_inputs (p : Fin 16) (l : List PoolEntry) :
    (setPool p l s).inputs = s.inputs := rfl
@[simp] theorem setPool_ports (p : Fin 16) (l : List PoolEntry) :
    (setPool p l s).ports = s.ports := rfl
@[simp] theorem setPool_pending (p : Fin 16) (l : List PoolEntry) :
    (setPool p l s).pending = s.pending := rfl

/-! ### `answer`: an answer without data -/

@[simp] theorem answer_tracker (a : AnswerCode) (e : Byte) :
    (answer a e s).tracker = s.tracker := rfl
@[simp] theorem answer_writePath (a : AnswerCode) (e : Byte) :
    (answer a e s).writePath = s.writePath := rfl
@[simp] theorem answer_reads (a : AnswerCode) (e : Byte) : (answer a e s).reads = s.reads := rfl
@[simp] theorem answer_windows (a : AnswerCode) (e : Byte) :
    (answer a e s).windows = s.windows := rfl
@[simp] theorem answer_contexts (a : AnswerCode) (e : Byte) :
    (answer a e s).contexts = s.contexts := rfl
@[simp] theorem answer_expired (a : AnswerCode) (e : Byte) :
    (answer a e s).expired = s.expired := rfl
@[simp] theorem answer_pools (a : AnswerCode) (e : Byte) : (answer a e s).pools = s.pools := rfl
@[simp] theorem answer_derivation (a : AnswerCode) (e : Byte) :
    (answer a e s).derivation = s.derivation := rfl
@[simp] theorem answer_transportKey (a : AnswerCode) (e : Byte) :
    (answer a e s).transportKey = s.transportKey := rfl
@[simp] theorem answer_time (a : AnswerCode) (e : Byte) : (answer a e s).time = s.time := rfl
@[simp] theorem answer_part (a : AnswerCode) (e : Byte) : (answer a e s).part = s.part := rfl
@[simp] theorem answer_loader (a : AnswerCode) (e : Byte) : (answer a e s).loader = s.loader := rfl
@[simp] theorem answer_link (a : AnswerCode) (e : Byte) :
    (answer a e s).link =
      { s.link with answer := { code := a, echo := e, data := [] } } := rfl
@[simp] theorem answer_store (a : AnswerCode) (e : Byte) : (answer a e s).store = s.store := rfl
@[simp] theorem answer_inputs (a : AnswerCode) (e : Byte) : (answer a e s).inputs = s.inputs := rfl
@[simp] theorem answer_ports (a : AnswerCode) (e : Byte) : (answer a e s).ports = s.ports := rfl
@[simp] theorem answer_pending (a : AnswerCode) (e : Byte) :
    (answer a e s).pending = s.pending := rfl

/-! ### `answerData`: an answer with data -/

@[simp] theorem answerData_tracker (e : Byte) (d : List Byte) :
    (answerData e d s).tracker = s.tracker := rfl
@[simp] theorem answerData_writePath (e : Byte) (d : List Byte) :
    (answerData e d s).writePath = s.writePath := rfl
@[simp] theorem answerData_reads (e : Byte) (d : List Byte) :
    (answerData e d s).reads = s.reads := rfl
@[simp] theorem answerData_windows (e : Byte) (d : List Byte) :
    (answerData e d s).windows = s.windows := rfl
@[simp] theorem answerData_contexts (e : Byte) (d : List Byte) :
    (answerData e d s).contexts = s.contexts := rfl
@[simp] theorem answerData_expired (e : Byte) (d : List Byte) :
    (answerData e d s).expired = s.expired := rfl
@[simp] theorem answerData_pools (e : Byte) (d : List Byte) :
    (answerData e d s).pools = s.pools := rfl
@[simp] theorem answerData_derivation (e : Byte) (d : List Byte) :
    (answerData e d s).derivation = s.derivation := rfl
@[simp] theorem answerData_transportKey (e : Byte) (d : List Byte) :
    (answerData e d s).transportKey = s.transportKey := rfl
@[simp] theorem answerData_time (e : Byte) (d : List Byte) : (answerData e d s).time = s.time := rfl
@[simp] theorem answerData_part (e : Byte) (d : List Byte) : (answerData e d s).part = s.part := rfl
@[simp] theorem answerData_loader (e : Byte) (d : List Byte) :
    (answerData e d s).loader = s.loader := rfl
@[simp] theorem answerData_link (e : Byte) (d : List Byte) :
    (answerData e d s).link =
      { s.link with answer := { code := .ok, echo := e, data := d } } := rfl
@[simp] theorem answerData_store (e : Byte) (d : List Byte) :
    (answerData e d s).store = s.store := rfl
@[simp] theorem answerData_inputs (e : Byte) (d : List Byte) :
    (answerData e d s).inputs = s.inputs := rfl
@[simp] theorem answerData_ports (e : Byte) (d : List Byte) :
    (answerData e d s).ports = s.ports := rfl
@[simp] theorem answerData_pending (e : Byte) (d : List Byte) :
    (answerData e d s).pending = s.pending := rfl

/-! ### `answerLoad`: a key load answered -/

@[simp] theorem answerLoad_tracker (a : AnswerCode) : (answerLoad a s).tracker = s.tracker := rfl
@[simp] theorem answerLoad_writePath (a : AnswerCode) :
    (answerLoad a s).writePath = s.writePath := rfl
@[simp] theorem answerLoad_reads (a : AnswerCode) : (answerLoad a s).reads = s.reads := rfl
@[simp] theorem answerLoad_windows (a : AnswerCode) : (answerLoad a s).windows = s.windows := rfl
@[simp] theorem answerLoad_contexts (a : AnswerCode) : (answerLoad a s).contexts = s.contexts := rfl
@[simp] theorem answerLoad_expired (a : AnswerCode) : (answerLoad a s).expired = s.expired := rfl
@[simp] theorem answerLoad_pools (a : AnswerCode) : (answerLoad a s).pools = s.pools := rfl
@[simp] theorem answerLoad_derivation (a : AnswerCode) :
    (answerLoad a s).derivation = s.derivation := rfl
@[simp] theorem answerLoad_transportKey (a : AnswerCode) :
    (answerLoad a s).transportKey = s.transportKey := rfl
@[simp] theorem answerLoad_time (a : AnswerCode) : (answerLoad a s).time = s.time := rfl
@[simp] theorem answerLoad_part (a : AnswerCode) : (answerLoad a s).part = s.part := rfl
@[simp] theorem answerLoad_loader (a : AnswerCode) : (answerLoad a s).loader = s.loader := rfl
@[simp] theorem answerLoad_link (a : AnswerCode) :
    (answerLoad a s).link =
      { s.link with
        answer := { code := a, echo := 0x10#8, data := [] }, loadInProgress := false } := rfl
@[simp] theorem answerLoad_store (a : AnswerCode) : (answerLoad a s).store = s.store := rfl
@[simp] theorem answerLoad_inputs (a : AnswerCode) : (answerLoad a s).inputs = s.inputs := rfl
@[simp] theorem answerLoad_ports (a : AnswerCode) : (answerLoad a s).ports = s.ports := rfl
@[simp] theorem answerLoad_pending (a : AnswerCode) : (answerLoad a s).pending = s.pending := rfl

/-! ### `forward`: a write burst forwarded -/

@[simp] theorem forward_tracker (b : WireBurst) : (forward b s).tracker = s.tracker := rfl
@[simp] theorem forward_writePath (b : WireBurst) : (forward b s).writePath = s.writePath := rfl
@[simp] theorem forward_reads (b : WireBurst) : (forward b s).reads = s.reads := rfl
@[simp] theorem forward_windows (b : WireBurst) : (forward b s).windows = s.windows := rfl
@[simp] theorem forward_contexts (b : WireBurst) : (forward b s).contexts = s.contexts := rfl
@[simp] theorem forward_expired (b : WireBurst) : (forward b s).expired = s.expired := rfl
@[simp] theorem forward_pools (b : WireBurst) : (forward b s).pools = s.pools := rfl
@[simp] theorem forward_derivation (b : WireBurst) : (forward b s).derivation = s.derivation := rfl
@[simp] theorem forward_transportKey (b : WireBurst) :
    (forward b s).transportKey = s.transportKey := rfl
@[simp] theorem forward_time (b : WireBurst) : (forward b s).time = s.time := rfl
@[simp] theorem forward_part (b : WireBurst) : (forward b s).part = s.part := rfl
@[simp] theorem forward_loader (b : WireBurst) : (forward b s).loader = s.loader := rfl
@[simp] theorem forward_link (b : WireBurst) : (forward b s).link = s.link := rfl
@[simp] theorem forward_store (b : WireBurst) : (forward b s).store = s.store := rfl
@[simp] theorem forward_inputs (b : WireBurst) : (forward b s).inputs = s.inputs := rfl
@[simp] theorem forward_ports (b : WireBurst) :
    (forward b s).ports =
      { s.ports with dramWrite := some b } := rfl
@[simp] theorem forward_pending (b : WireBurst) : (forward b s).pending = s.pending := rfl

/-! ### `countReject`: a context's reject count raised -/

@[simp] theorem countReject_tracker (w : Fin 8) (slot : Nat) :
    (countReject w slot s).tracker = s.tracker := rfl
@[simp] theorem countReject_writePath (w : Fin 8) (slot : Nat) :
    (countReject w slot s).writePath = s.writePath := rfl
@[simp] theorem countReject_reads (w : Fin 8) (slot : Nat) :
    (countReject w slot s).reads = s.reads := rfl
@[simp] theorem countReject_windows (w : Fin 8) (slot : Nat) :
    (countReject w slot s).windows = s.windows := rfl
@[simp] theorem countReject_contexts (w : Fin 8) (slot : Nat) :
    (countReject w slot s).contexts =
      s.contexts.map fun c =>
        if c.isFor w slot then { c with rejectCount := satInc c.rejectCount } else c := rfl
@[simp] theorem countReject_expired (w : Fin 8) (slot : Nat) :
    (countReject w slot s).expired = s.expired := rfl
@[simp] theorem countReject_pools (w : Fin 8) (slot : Nat) :
    (countReject w slot s).pools = s.pools := rfl
@[simp] theorem countReject_derivation (w : Fin 8) (slot : Nat) :
    (countReject w slot s).derivation = s.derivation := rfl
@[simp] theorem countReject_transportKey (w : Fin 8) (slot : Nat) :
    (countReject w slot s).transportKey = s.transportKey := rfl
@[simp] theorem countReject_time (w : Fin 8) (slot : Nat) :
    (countReject w slot s).time = s.time := rfl
@[simp] theorem countReject_part (w : Fin 8) (slot : Nat) :
    (countReject w slot s).part = s.part := rfl
@[simp] theorem countReject_loader (w : Fin 8) (slot : Nat) :
    (countReject w slot s).loader = s.loader := rfl
@[simp] theorem countReject_link (w : Fin 8) (slot : Nat) :
    (countReject w slot s).link = s.link := rfl
@[simp] theorem countReject_store (w : Fin 8) (slot : Nat) :
    (countReject w slot s).store = s.store := rfl
@[simp] theorem countReject_inputs (w : Fin 8) (slot : Nat) :
    (countReject w slot s).inputs = s.inputs := rfl
@[simp] theorem countReject_ports (w : Fin 8) (slot : Nat) :
    (countReject w slot s).ports = s.ports := rfl
@[simp] theorem countReject_pending (w : Fin 8) (slot : Nat) :
    (countReject w slot s).pending = s.pending := rfl

/-! ### `emptyAllPositions`: every position emptied -/

@[simp] theorem emptyAllPositions_tracker : (emptyAllPositions s).tracker = s.tracker := rfl
@[simp] theorem emptyAllPositions_writePath : (emptyAllPositions s).writePath = s.writePath := rfl
@[simp] theorem emptyAllPositions_reads : (emptyAllPositions s).reads = s.reads := rfl
@[simp] theorem emptyAllPositions_windows : (emptyAllPositions s).windows = s.windows := rfl
@[simp] theorem emptyAllPositions_contexts : (emptyAllPositions s).contexts = s.contexts := rfl
@[simp] theorem emptyAllPositions_expired : (emptyAllPositions s).expired = s.expired := rfl
@[simp] theorem emptyAllPositions_pools :
    (emptyAllPositions s).pools =
      Vector.replicate 16 [] := rfl
@[simp] theorem emptyAllPositions_derivation :
    (emptyAllPositions s).derivation = s.derivation := rfl
@[simp] theorem emptyAllPositions_transportKey :
    (emptyAllPositions s).transportKey = s.transportKey := rfl
@[simp] theorem emptyAllPositions_time : (emptyAllPositions s).time = s.time := rfl
@[simp] theorem emptyAllPositions_part : (emptyAllPositions s).part = s.part := rfl
@[simp] theorem emptyAllPositions_loader : (emptyAllPositions s).loader = s.loader := rfl
@[simp] theorem emptyAllPositions_link : (emptyAllPositions s).link = s.link := rfl
@[simp] theorem emptyAllPositions_store :
    (emptyAllPositions s).store =
      { s.store with
        positions := Vector.ofFn fun p : Fin 16 => emptied s.store.positions[p] } := rfl
@[simp] theorem emptyAllPositions_inputs : (emptyAllPositions s).inputs = s.inputs := rfl
@[simp] theorem emptyAllPositions_ports : (emptyAllPositions s).ports = s.ports := rfl
@[simp] theorem emptyAllPositions_pending : (emptyAllPositions s).pending = s.pending := rfl

/-! ### `tamperDerivation`: the derivation unit at tamper -/

@[simp] theorem tamperDerivation_tracker : (tamperDerivation s).tracker = s.tracker := rfl
@[simp] theorem tamperDerivation_writePath : (tamperDerivation s).writePath = s.writePath := rfl
@[simp] theorem tamperDerivation_reads : (tamperDerivation s).reads = s.reads := rfl
@[simp] theorem tamperDerivation_windows : (tamperDerivation s).windows = s.windows := rfl
@[simp] theorem tamperDerivation_contexts : (tamperDerivation s).contexts = s.contexts := rfl
@[simp] theorem tamperDerivation_expired : (tamperDerivation s).expired = s.expired := rfl
@[simp] theorem tamperDerivation_pools : (tamperDerivation s).pools = s.pools := rfl
@[simp] theorem tamperDerivation_derivation :
    (tamperDerivation s).derivation =
      { s.derivation with
        inFlight := s.derivation.inFlight.map voidOperation, pendingLoad := none } := rfl
@[simp] theorem tamperDerivation_transportKey :
    (tamperDerivation s).transportKey = s.transportKey := rfl
@[simp] theorem tamperDerivation_time : (tamperDerivation s).time = s.time := rfl
@[simp] theorem tamperDerivation_part : (tamperDerivation s).part = s.part := rfl
@[simp] theorem tamperDerivation_loader : (tamperDerivation s).loader = s.loader := rfl
@[simp] theorem tamperDerivation_link : (tamperDerivation s).link = s.link := rfl
@[simp] theorem tamperDerivation_store : (tamperDerivation s).store = s.store := rfl
@[simp] theorem tamperDerivation_inputs : (tamperDerivation s).inputs = s.inputs := rfl
@[simp] theorem tamperDerivation_ports : (tamperDerivation s).ports = s.ports := rfl
@[simp] theorem tamperDerivation_pending : (tamperDerivation s).pending = s.pending := rfl

/-! ### `freezeForTamper`: TAMPER on every enabled window -/

@[simp] theorem freezeForTamper_tracker : (freezeForTamper s).tracker = s.tracker := rfl
@[simp] theorem freezeForTamper_writePath : (freezeForTamper s).writePath = s.writePath := rfl
@[simp] theorem freezeForTamper_reads : (freezeForTamper s).reads = s.reads := rfl
@[simp] theorem freezeForTamper_windows :
    (freezeForTamper s).windows =
      Vector.ofFn fun w : Fin 8 =>
        { s.windows[w] with
          freeze :=
            { s.windows[w].freeze with tamper := s.windows[w].freeze.tamper || windowEnabled s w } } := rfl
@[simp] theorem freezeForTamper_contexts : (freezeForTamper s).contexts = s.contexts := rfl
@[simp] theorem freezeForTamper_expired : (freezeForTamper s).expired = s.expired := rfl
@[simp] theorem freezeForTamper_pools : (freezeForTamper s).pools = s.pools := rfl
@[simp] theorem freezeForTamper_derivation : (freezeForTamper s).derivation = s.derivation := rfl
@[simp] theorem freezeForTamper_transportKey :
    (freezeForTamper s).transportKey = s.transportKey := rfl
@[simp] theorem freezeForTamper_time : (freezeForTamper s).time = s.time := rfl
@[simp] theorem freezeForTamper_part : (freezeForTamper s).part = s.part := rfl
@[simp] theorem freezeForTamper_loader : (freezeForTamper s).loader = s.loader := rfl
@[simp] theorem freezeForTamper_link : (freezeForTamper s).link = s.link := rfl
@[simp] theorem freezeForTamper_store : (freezeForTamper s).store = s.store := rfl
@[simp] theorem freezeForTamper_inputs : (freezeForTamper s).inputs = s.inputs := rfl
@[simp] theorem freezeForTamper_ports : (freezeForTamper s).ports = s.ports := rfl
@[simp] theorem freezeForTamper_pending : (freezeForTamper s).pending = s.pending := rfl

/-! ### `thawTamper`: TAMPER off every window -/

@[simp] theorem thawTamper_tracker : (thawTamper s).tracker = s.tracker := rfl
@[simp] theorem thawTamper_writePath : (thawTamper s).writePath = s.writePath := rfl
@[simp] theorem thawTamper_reads : (thawTamper s).reads = s.reads := rfl
@[simp] theorem thawTamper_windows :
    (thawTamper s).windows =
      Vector.ofFn fun w : Fin 8 =>
        { s.windows[w] with freeze := { s.windows[w].freeze with tamper := false } } := rfl
@[simp] theorem thawTamper_contexts : (thawTamper s).contexts = s.contexts := rfl
@[simp] theorem thawTamper_expired : (thawTamper s).expired = s.expired := rfl
@[simp] theorem thawTamper_pools : (thawTamper s).pools = s.pools := rfl
@[simp] theorem thawTamper_derivation : (thawTamper s).derivation = s.derivation := rfl
@[simp] theorem thawTamper_transportKey : (thawTamper s).transportKey = s.transportKey := rfl
@[simp] theorem thawTamper_time : (thawTamper s).time = s.time := rfl
@[simp] theorem thawTamper_part : (thawTamper s).part = s.part := rfl
@[simp] theorem thawTamper_loader : (thawTamper s).loader = s.loader := rfl
@[simp] theorem thawTamper_link : (thawTamper s).link = s.link := rfl
@[simp] theorem thawTamper_store : (thawTamper s).store = s.store := rfl
@[simp] theorem thawTamper_inputs : (thawTamper s).inputs = s.inputs := rfl
@[simp] theorem thawTamper_ports : (thawTamper s).ports = s.ports := rfl
@[simp] theorem thawTamper_pending : (thawTamper s).pending = s.pending := rfl

/-! ### `endContexts`: contexts ended without a close -/

@[simp] theorem endContexts_tracker (f : Context → Bool) (e : EndCause) :
    (endContexts f e s).tracker = s.tracker := rfl
@[simp] theorem endContexts_writePath (f : Context → Bool) (e : EndCause) :
    (endContexts f e s).writePath = s.writePath := rfl
@[simp] theorem endContexts_reads (f : Context → Bool) (e : EndCause) :
    (endContexts f e s).reads = s.reads := rfl
@[simp] theorem endContexts_windows (f : Context → Bool) (e : EndCause) :
    (endContexts f e s).windows = s.windows := rfl
@[simp] theorem endContexts_contexts (f : Context → Bool) (e : EndCause) :
    (endContexts f e s).contexts =
      s.contexts.filter fun c => !f c := rfl
@[simp] theorem endContexts_expired (f : Context → Bool) (e : EndCause) :
    (endContexts f e s).expired =
      ((s.contexts.filter f).map fun c => expiredEntryOf c e s.time.ticks).foldl
        appendExpired s.expired := rfl
@[simp] theorem endContexts_pools (f : Context → Bool) (e : EndCause) :
    (endContexts f e s).pools = s.pools := rfl
@[simp] theorem endContexts_derivation (f : Context → Bool) (e : EndCause) :
    (endContexts f e s).derivation = s.derivation := rfl
@[simp] theorem endContexts_transportKey (f : Context → Bool) (e : EndCause) :
    (endContexts f e s).transportKey = s.transportKey := rfl
@[simp] theorem endContexts_time (f : Context → Bool) (e : EndCause) :
    (endContexts f e s).time = s.time := rfl
@[simp] theorem endContexts_part (f : Context → Bool) (e : EndCause) :
    (endContexts f e s).part = s.part := rfl
@[simp] theorem endContexts_loader (f : Context → Bool) (e : EndCause) :
    (endContexts f e s).loader = s.loader := rfl
@[simp] theorem endContexts_link (f : Context → Bool) (e : EndCause) :
    (endContexts f e s).link = s.link := rfl
@[simp] theorem endContexts_store (f : Context → Bool) (e : EndCause) :
    (endContexts f e s).store = s.store := rfl
@[simp] theorem endContexts_inputs (f : Context → Bool) (e : EndCause) :
    (endContexts f e s).inputs = s.inputs := rfl
@[simp] theorem endContexts_ports (f : Context → Bool) (e : EndCause) :
    (endContexts f e s).ports = s.ports := rfl
@[simp] theorem endContexts_pending (f : Context → Bool) (e : EndCause) :
    (endContexts f e s).pending = s.pending := rfl

/-! ### `parityFailure`: a parity failure -/

@[simp] theorem parityFailure_tracker :
    (parityFailure s).tracker =
      { s.tracker with banks := Vector.replicate 16 .closed, state := .parityRecovery } := rfl
@[simp] theorem parityFailure_writePath :
    (parityFailure s).writePath =
      { s.writePath with
        parityFails := satInc s.writePath.parityFails
        alertCauses := s.writePath.alertCauses ||| AlertCause.parityFail.mask } := rfl
@[simp] theorem parityFailure_reads : (parityFailure s).reads = s.reads := rfl
@[simp] theorem parityFailure_windows : (parityFailure s).windows = s.windows := rfl
@[simp] theorem parityFailure_contexts : (parityFailure s).contexts = s.contexts := rfl
@[simp] theorem parityFailure_expired : (parityFailure s).expired = s.expired := rfl
@[simp] theorem parityFailure_pools : (parityFailure s).pools = s.pools := rfl
@[simp] theorem parityFailure_derivation : (parityFailure s).derivation = s.derivation := rfl
@[simp] theorem parityFailure_transportKey : (parityFailure s).transportKey = s.transportKey := rfl
@[simp] theorem parityFailure_time : (parityFailure s).time = s.time := rfl
@[simp] theorem parityFailure_part : (parityFailure s).part = s.part := rfl
@[simp] theorem parityFailure_loader : (parityFailure s).loader = s.loader := rfl
@[simp] theorem parityFailure_link : (parityFailure s).link = s.link := rfl
@[simp] theorem parityFailure_store : (parityFailure s).store = s.store := rfl
@[simp] theorem parityFailure_inputs : (parityFailure s).inputs = s.inputs := rfl
@[simp] theorem parityFailure_ports : (parityFailure s).ports = s.ports := rfl
@[simp] theorem parityFailure_pending : (parityFailure s).pending = s.pending := rfl

end Sys2Proof.Machine
end

