-- ==== Sys2Proof/Laws/Ops.lean ====
section
/-! SUPPORT. For each shared operation, one lemma that says everything it can do, in the terms of the
statements. -/

namespace Sys2Proof.Machine

/-! ### Part states, the link and the tracker -/

theorem afterLoading_iff (s : State) : s.part.state.afterLoading = true ↔ PastLoading s := by
  unfold PastLoading
  cases s.part.state <;> simp [PartState.afterLoading]

theorem holdsRecords_iff (s : State) : s.part.state.holdsRecords = true ↔ HoldsRecords s := by
  unfold HoldsRecords
  cases s.part.state <;> simp [PartState.holdsRecords]

theorem timeRuns_iff (s : State) :
    timeRuns s = true ↔ PastLoading s ∧ s.inputs.clockRunning = true := by
  rw [timeRuns, Bool.and_eq_true, afterLoading_iff]

theorem takesCommands_iff (s : State) : takesCommands s = true ↔ TrackerTakes s := by
  unfold takesCommands TrackerTakes
  rw [Bool.and_eq_true, Bool.and_eq_true, afterLoading_iff]
  simp
  tauto

theorem linkAnswers_iff (s : State) :
    linkAnswers s = true ↔ s.part.state ≠ .reset ∧ s.inputs.clockRunning = true := by
  simp [linkAnswers]

theorem windowEnabled_iff (s : State) (w : Fin 8) : windowEnabled s w = true ↔ Enabled s w := by
  unfold windowEnabled Enabled
  cases s.windows[w].record <;> simp

/-! ### Counts -/

/-- A saturating count rises by 1, but never above its highest value. -/
theorem satInc_eq_saturated {n : Nat} (x : BitVec n) : satInc x = saturated x := by
  unfold satInc saturated
  have hx := x.isLt
  split
  · next h => subst h; apply BitVec.eq_of_toNat_eq; simp
  · next h =>
    have hne : x.toNat ≠ 2 ^ n - 1 := fun h' => h (BitVec.eq_of_toNat_eq (by simp [h']))
    apply BitVec.eq_of_toNat_eq
    simp only [BitVec.toNat_add, BitVec.toNat_ofNat]
    rw [Nat.min_eq_left (by omega)]
    rcases n with _ | n
    · simp
    · have : (2 : Nat) ^ (n + 1) > 1 := Nat.one_lt_two_pow (by omega)
      simp

theorem bump_eq_outcomesAfter (o : OutcomeCounts) (t : TrailerState) : o.bump t = outcomesAfter o t := by
  cases t <;> simp [OutcomeCounts.bump, outcomesAfter, satInc_eq_saturated]

/-! ### Commands of the channel -/

theorem channelCommand_taken (c : Instr) (ok : Bool) (f g : State → State) (s : State)
    (h : TrackerTakes s) (hp : PassesParity s ok) :
    channelCommand c ok f g s = f { s with ports.dramCommand := some c } := by
  have h' : takesCommands { s with ports.dramCommand := some c } = true := (takesCommands_iff _).2 h
  unfold channelCommand
  rw [if_pos h']
  simp only
  rw [if_neg]
  unfold PassesParity at hp
  intro h
  simp at h
  simp_all

theorem channelCommand_untaken (c : Instr) (ok : Bool) (f g : State → State) (s : State)
    (h : ¬ TrackerTakes s) :
    channelCommand c ok f g s = g { s with ports.dramCommand := some c } := by
  have h' : ¬ takesCommands { s with ports.dramCommand := some c } = true :=
    fun h' => h ((takesCommands_iff _).1 h')
  unfold channelCommand
  rw [if_neg h']

theorem channelCommand_failed (c : Instr) (f g : State → State) (s : State) (h : TrackerTakes s)
    (hp : s.tracker.mode.commandParity = true) :
    channelCommand c false f g s = g (parityFailure { s with ports.dramCommand := some c }) := by
  have h' : takesCommands { s with ports.dramCommand := some c } = true := (takesCommands_iff _).2 h
  unfold channelCommand
  rw [if_pos h']
  simp only
  rw [if_pos (by simp [hp])]

/-! ### Contexts and the expired list -/

theorem expiryDue_eq_due (s : State) : expiryDue s = due s s.time.ticks := by
  funext c
  unfold due expiryDue windowTimeout
  cases s.windows[c.window].record with
  | none => simp
  | some r =>
    have h : (s.time.ticks - c.lastWrite).toNat =
        (s.time.ticks.toNat + 2 ^ 32 - c.lastWrite.toNat) % 2 ^ 32 := by
      rw [BitVec.toNat_sub]
      have := c.lastWrite.isLt
      congr 1
      omega
    simp [h]

/-- Entries appended one by one leave the newest 16 of them all (R77). -/
theorem foldl_appendExpired (more : List ExpiredEntry) :
    ∀ l : List ExpiredEntry, l.length ≤ 16 →
      more.foldl appendExpired l = newestEntries (l ++ more) := by
  induction more with
  | nil =>
    intro l h
    simp [newestEntries, Nat.sub_eq_zero_of_le h]
  | cons e rest ih =>
    intro l h
    rw [List.foldl_cons, ih]
    · unfold appendExpired newestEntries Config.maxExpired
      split
      · simp
      · have hl : l.length = 16 := by omega
        have hne : l ≠ [] := by intro h; simp [h] at hl
        obtain ⟨a, t, rfl⟩ := List.exists_cons_of_ne_nil hne
        simp at hl ⊢
        have e1 : t.length + (rest.length + 1) - 16 = rest.length := by omega
        have e2 : t.length + (rest.length + 1) - 15 = rest.length + 1 := by omega
        rw [e1, e2, List.drop_succ_cons]
    · unfold appendExpired Config.maxExpired
      split <;> simp <;> omega

/-- What ending contexts does: those picked leave, and their entries are the newest (R77 to R80). -/
theorem endContexts_eq (picked : Context → Bool) (cause : EndCause) (s : State)
    (h : s.expired.length ≤ 16) :
    endContexts picked cause s =
      { s with
        contexts := s.contexts.filter fun c => !picked c
        expired :=
          newestEntries
            (s.expired ++
              (s.contexts.filter picked).map fun c => expiredEntryOf c cause s.time.ticks) } := by
  rw [endContexts, foldl_appendExpired _ _ h]

theorem findContext_some {cs : List Context} {w : Fin 8} {slot : Nat} {c : Context}
    (h : findContext cs w slot = some c) : c ∈ cs ∧ c.window = w ∧ c.slot = slot := by
  have h1 := List.mem_of_find?_eq_some h
  have h2 := List.find?_some h
  simpa [Context.isFor, h1] using h2

theorem findContext_none (cs : List Context) (w : Fin 8) (slot : Nat) :
    findContext cs w slot = none ↔ ∀ c ∈ cs, ¬ (c.window = w ∧ c.slot = slot) := by
  simp [findContext, Context.isFor]

/-- A context joins a table with the same members beside it. -/
theorem insertContext_perm (c : Context) (cs : List Context) : (insertContext c cs).Perm (c :: cs) := by
  induction cs with
  | nil => exact .refl _
  | cons d rest ih =>
    unfold insertContext
    split
    · exact .refl _
    · exact (ih.cons d).trans (.swap c d rest)

/-! ### Placing a line -/

/-- What a placement says: its record is the window's, enabled, and covers the line (R46, R47). -/
theorem placeLine_some {s : State} {line : Nat} {pl : Placement} (h : placeLine s line = some pl) :
    s.windows[pl.window].record = some pl.record ∧ pl.record.enabled = true ∧
      pl.record.covers line = true ∧ pl = placeIn pl.window pl.record line := by
  obtain ⟨w, -, hw⟩ := List.exists_of_findSome?_eq_some h
  unfold placeInWindow at hw
  split at hw
  · next r hr =>
    split at hw
    · next hc =>
      cases hw
      simp only [Bool.and_eq_true] at hc
      exact ⟨hr, hc.1, hc.2, rfl⟩
    · cases hw
  · cases hw

/-! ### Key positions and the derivation unit -/

theorem ownerWindow_positions (w : Fin 8) :
    ownerWindow (positionA w) = w ∧ ownerWindow (positionB w) = w ∧
      partner (positionA w) = positionB w ∧ partner (positionB w) = positionA w := by
  revert w
  decide

theorem partner_facts (p : Fin 16) :
    partner p ≠ p ∧ partner (partner p) = p ∧ ownerWindow (partner p) = ownerWindow p := by
  revert p
  decide

/-- The ACTIVE position of a window is one of its two; there is none when neither is ACTIVE. -/
theorem activePosition_cases (s : State) (w : Fin 8) :
    (∃ p, activePosition s w = some p ∧ ownerWindow p = w ∧ s.store.positions[p].state = .active) ∨
      (activePosition s w = none ∧ s.store.positions[positionA w].state ≠ .active ∧
        s.store.positions[positionB w].state ≠ .active) := by
  obtain ⟨ha, hb, -, -⟩ := ownerWindow_positions w
  unfold activePosition
  by_cases h1 : s.store.positions[positionA w].state = .active
  · exact .inl ⟨_, if_pos h1, ha, h1⟩
  · by_cases h2 : s.store.positions[positionB w].state = .active
    · exact .inl ⟨_, by rw [if_neg h1, if_pos h2], hb, h2⟩
    · exact .inr ⟨by rw [if_neg h1, if_neg h2], h1, h2⟩

theorem needsRefill_iff (s : State) (p : Fin 16) : needsRefill s p = true ↔ NeedsRefill s p := by
  have hf : (!refillInFlight s p) = true ↔
      ∀ n g k, s.derivation.inFlight ≠ some (.refill p n g k) := by
    unfold refillInFlight
    constructor
    · intro h n g k hk
      simp [hk] at h
    · intro h
      split
      · next q n g k hq =>
        have : q ≠ p := fun e => h n g k (e ▸ hq)
        simpa using this
      · rfl
  simp only [needsRefill, Bool.and_eq_true, hf, windowEnabled_iff, decide_eq_true_eq, NeedsRefill,
    InUse, holdsKey, Bool.or_eq_true, beq_iff_eq, Config.poolDepth]
  tauto

theorem rollover_eq (p : Fin 16) (s : State) :
    rollover p s =
      { s with
        store.positions := promoted p s.store.positions
        part.notices := noticesAfterRollover s p } := by
  unfold rollover promoted noticesAfterRollover
  by_cases h : s.store.positions[partner p].state = .ready
  · simp only [h, ne_eq, not_true_eq_false, false_and, ↓reduceIte, setPosition]
  · cases hw : windowEnabled s (ownerWindow p) <;>
      simp only [h, ne_eq, not_false_eq_true, true_and, ↓reduceIte, raiseNoticeWhen, raiseNotice,
        NoticeCause.mask, Bool.false_eq_true]

/-- What taking up the next operation can do: nothing, a pending key load taken up, or a refill taken
up for a position that needs one (R141). -/
theorem takeUpNext_cases (s : State) :
    takeUpNext s = s ∨
      (∃ p b, s.part.state = .active ∧ s.derivation.inFlight = none ∧
        s.derivation.pendingLoad = some (p, b) ∧
        takeUpNext s =
          { s with
            derivation :=
              { s.derivation with inFlight := some (.unwrap p (some b)), pendingLoad := none } }) ∨
      (∃ p, s.part.state = .active ∧ s.derivation.inFlight = none ∧
        s.derivation.pendingLoad = none ∧ NeedsRefill s p ∧ takeUpNext s = takeUpRefill p s) := by
  unfold takeUpNext
  split
  · next h =>
    split
    · next p b hp => exact .inr (.inl ⟨p, b, h.1, h.2, hp, rfl⟩)
    · next hp =>
      split
      · next p hn =>
        have := List.find?_some hn
        exact .inr (.inr ⟨p, h.1, h.2, hp, (needsRefill_iff s p).1 this, rfl⟩)
      · exact .inl rfl
  · exact .inl rfl

theorem takeUpRefill_eq (p : Fin 16) (s : State) :
    takeUpRefill p s =
      { s with
        store.positions :=
          s.store.positions.set p { s.store.positions[p] with next := s.store.positions[p].next + 1 }
        derivation :=
          { s.derivation with
            inFlight :=
              some (.refill p s.store.positions[p].next s.store.positions[p].generation
                (some (s.store.positions[p].baseKey.getD 0#128, s.store.positions[p].keyId)))
            pointer := p } } := rfl

/-! ### The SPENT test, tamper, blanks and body blocks -/

/-- What the SPENT test does: nothing, or the position turns SPENT, with rollover when it was ACTIVE
(R134). -/
theorem spentTest_eq (p : Fin 16) (s : State) :
    spentTest p s = if usedUp s p then spentAt s p else s := by
  have hp : partner p ≠ p := (partner_facts p).1
  have hv : (partner p).val ≠ p.val := fun h => hp (Fin.ext h)
  have hg : ∀ x, (s.store.positions.set p x)[partner p] = s.store.positions[partner p] := by
    intro x
    exact Vector.getElem_set_ne _ _ (Ne.symm hv)
  unfold spentTest
  rcases hu : usedUp s p with _ | _
  · exact if_neg (by simpa [usedUp] using hu)
  · refine (if_pos (by simpa [usedUp] using hu)).trans ?_
    by_cases ha : s.store.positions[p].state = .active
    · simp only [ha, ↓reduceIte, rollover_eq, spentAt, noticesAfterRollover, setPosition, hg, spentOf,
        turnedSpent]
      rfl
    · simp only [ha, ↓reduceIte, spentAt, setPosition, spentOf, turnedSpent]

/-- Tamper taken with the latch already set raises TAMPER alone (R162). -/
theorem takeTamper_latched (s : State) (h : s.store.latch = true) :
    takeTamper s =
      { s with part := { s.part with notices := s.part.notices ||| 0x08#7, tamperTaken := true } } := by
  simp [takeTamper, h, NoticeCause.mask, raiseNotice]

/-- A blank counted in its window (R53). -/
theorem countBlank_eq (w : Fin 8) (cause : BlankCause) (s : State) :
    countBlank w cause s =
      { s with
        windows :=
          s.windows.set w
            { s.windows[w] with blanked := saturated s.windows[w].blanked, lastBlank := some cause }
        part.notices := s.part.notices ||| (if cause = .noKey then 0x60#7 else 0x40#7) } := by
  cases cause <;>
    simp [countBlank, raiseNoticeWhen, raiseNotice, NoticeCause.mask, setWindow,
      satInc_eq_saturated, BitVec.or_assoc]

theorem blankBurst_codes (d : BurstDesc) : (blankBurst d).codes.isSome = d.writeCheck := by
  cases h : d.writeCheck <;> simp [blankBurst, composedBurst, h]

/-- What taking one body block does: a covered one only sets the torn flag and is blanked; any other is
covered and enciphered (R66, R67). -/
theorem takeBlock_eq (inspects : Bool) (c : Context) (b : BodyBlock) :
    takeBlock inspects c b =
      if c.coverage.getLsbD b.number then ({ c with torn := true }, 0#128)
      else
        ({ c with
            coverage := c.coverage ||| 1#32 <<< b.number
            tagSum := sumWith c c.tagSum [b]
            zeroFilled := c.zeroFilled || b.zeroFilled
            inspection := inspectionAfter inspects c.inspection [b] },
          enciphered c b) := by
  unfold takeBlock inspectionAfter
  split
  · rfl
  · by_cases hb : b.number = 0 <;>
      simp [hb, sumWith, tagTerm, Context.position, enciphered, keystream]
/-! ### The management link -/

/-- A frame that is carried out: no frame is being received any more, and nothing else has changed. -/
theorem frameEnds_free (code : Byte) (carry : State → State) (s : State) (h : LinkFree s) :
    frameEnds code carry s = carry { s with link.frame := [] } := by
  have h1 : linkAnswers s = true := (linkAnswers_iff s).2 ⟨h.1, h.2.1⟩
  simp [frameEnds, h1, h.2.2]

theorem frameEnds_busy (code : Byte) (carry : State → State) (s : State)
    (h : s.part.state ≠ .reset) (hc : s.inputs.clockRunning = true)
    (hm : s.link.loadInProgress = true) :
    frameEnds code carry s = { s with link := answered s .busy code } := by
  have h1 : linkAnswers s = true := (linkAnswers_iff s).2 ⟨h, hc⟩
  simp [frameEnds, h1, hm, answer, answered]

theorem frameEnds_unanswered (code : Byte) (carry : State → State) (s : State)
    (h : s.part.state = .reset ∨ s.inputs.clockRunning = false) : frameEnds code carry s = s := by
  have h1 : linkAnswers s = false := by
    rcases h with h | h <;> simp [linkAnswers, h]
  simp [frameEnds, h1]

/-! ### Codes in pieces -/

theorem crc_append {w : Nat} (poly init : BitVec w) (a b : List Byte) :
    crc poly init (a ++ b) = crc poly (crc poly init a) b := by simp [crc]

/-- The check code of an image from those of its quarters, each short enough to evaluate. -/
theorem imageCode_quarters (bytes : List Byte) :
    imageCode bytes =
      crc 0x1021#16
        (crc 0x1021#16
          (crc 0x1021#16 (crc 0x1021#16 0xFFFF#16 (bytes.take 34)) ((bytes.drop 34).take 34))
          ((bytes.drop 68).take 34))
        (bytes.drop 102) := by
  rw [← crc_append, ← crc_append, ← crc_append, imageCode]
  congr 1
  have h1 : bytes.drop 68 = (bytes.drop 34).drop 34 := by rw [List.drop_drop]
  have h2 : bytes.drop 102 = (bytes.drop 68).drop 34 := by rw [List.drop_drop]
  rw [h2, List.take_append_drop, h1, List.take_append_drop, List.take_append_drop]

/-! ### Numbers as bytes -/

theorem bytesBE_length (n v : Nat) : (bytesBE n v).length = n := by simp [bytesBE]

theorem numberBE_append (l : List Byte) (b : Byte) :
    numberBE (l ++ [b]) = numberBE l * 256 + b.toNat := by simp [numberBE]

theorem bytesBE_succ (n v : Nat) :
    bytesBE (n + 1) v = bytesBE n (v / 256) ++ [BitVec.ofNat 8 v] := by
  unfold bytesBE
  rw [List.range_succ, List.map_append]
  congr 1
  · apply List.map_congr_left
    intro i hi
    have hi := List.mem_range.1 hi
    congr 1
    rw [Nat.div_div_eq_div_mul, ← Nat.pow_succ']
    congr 2
    omega
  · simp

/-- The bytes of a number that fits tell the number (R183). -/
theorem numberBE_bytesBE (n : Nat) : ∀ v : Nat, v < 256 ^ n → numberBE (bytesBE n v) = v := by
  induction n with
  | zero =>
    intro v h
    have : v = 0 := by simpa using h
    subst this
    rfl
  | succ n ih =>
    intro v h
    rw [bytesBE_succ, numberBE_append, ih (v / 256) (by rw [Nat.pow_succ] at h; omega)]
    simp
    omega

end Sys2Proof.Machine
end

