-- ==== Sys2Proof/Tests/Slice0.lean ====
section
/-! SUPPORT. Tests: the well-formedness checks refuse ill-formed commands, one small step of every
command, the manual's worked cases, and a witness for the hypotheses of every statement that has
some. -/

namespace Sys2Proof.Tests

open Machine

-- Theorems that the kernel evaluates wait for one another, each on a thread of its own.
set_option Elab.async false

/-! ### A part at work: window 2 of the manual's worked cases -/

/-- The state after one command; the state itself should the command not complete. -/
def after (c : Instr) (s : State) : State :=
  match exec c s with
  | .next t => t
  | .fault _ => s
  | .refused _ => s

/-- Window 2 of section 3.2: B = 13,697,024, S = 4, C = 8,192; T = 2,000 and threshold 1,000. -/
def recordTwo : WindowRecord :=
  { enabled := true, inspection := true, sizeCode := 0x04#8, base := 13697024#32,
    countValue := 8191#16, timeout := 2000#16, threshold := 1000#16 }

/-- A disabled record. -/
def recordOff : WindowRecord :=
  { enabled := false, inspection := false, sizeCode := 0x00#8, base := 0#32, countValue := 0#16,
    timeout := 0#16, threshold := 0#16 }

/-- The base key of the public cipher examples; E of it over zeros begins C6 A1 3B. -/
def someKey : Block := 0x000102030405060708090a0b0c0d0e0f#128

/-- Position 4 of section 8.3. -/
def keyFour : KeyPosition :=
  { state := .active, keyId := 0x314B09E277A0156C#64, baseKey := some someKey,
    check := some 0xC6A13B#24, start := 4000, limit := 4720, next := 4720, generation := 1#32 }

/-- Position 5 of section 8.3. -/
def keyFive : KeyPosition :=
  { state := .ready, keyId := 0x6C20813D9E04B752#64, baseKey := some someKey,
    check := some 0xC6A13B#24, start := 0, limit := 1048575, next := 4, generation := 7#32 }

/-- A pool entry of a counter. -/
def entry (n : Nat) : PoolEntry := { counter := n, ek := 0x11#128, ak := 0x22#128 }

/-- ACTIVE, window 2 enabled, position 4 ACTIVE and position 5 READY, both pools full. -/
def atWork : State :=
  { State.reset with
    windows :=
      (Vector.replicate 8 { Window.blank with record := some recordOff }).set 2
        { Window.blank with record := some recordTwo }
    pools :=
      ((Vector.replicate 16 []).set 4 [entry 4716, entry 4717, entry 4718, entry 4719]).set 5
        [entry 0, entry 1, entry 2, entry 3]
    time := { prescaler := some 25000, count := 0, ticks := 100#32 }
    part :=
      { state := .active, notices := 0#7, storeOutcome := .held, tamperTaken := false,
        mismatch := false }
    loader := { outcome := .valid, workingCopy := [] }
    store :=
      { marker := true, latch := false, wrapSeq := Vector.replicate 8 9312#32,
        positions := ((Vector.replicate 16 Config.blankPosition).set 4 keyFour).set 5 keyFive } }

/-- The descriptor of section 6.8: till 17, 5371 4280 6935 1206. -/
def descriptor : List Byte :=
  [0x01#8, 0x10#8, 0x53#8, 0x71#8, 0x42#8, 0x80#8, 0x69#8, 0x35#8, 0x12#8, 0x06#8, 0xFF#8, 0xFF#8,
    0x00#8, 0x00#8, 0x00#8, 17#8]

/-- The context of slot 5,998 of section 2.10: blocks 0 to 3, 6 and 7 covered. -/
def someContext : Context :=
  { window := 2, slot := 5998, keyId := 0x314B09E277A0156C#64, counter := 4711, ek := 0x11#128,
    ak := 0x22#128, coverage := 0xCF#32, tagSum := 0x33#128, torn := false, zeroFilled := false,
    keyLow := false, rejectCount := 0#4, inspection := some (inspectBytes descriptor),
    openTick := 90#32, lastWrite := 95#32 }

/-- The part with that context. -/
def withContext : State := { atWork with contexts := [someContext] }

/-- An entry of the expired list for slot 5,998. -/
def someEntry : ExpiredEntry :=
  { window := 2, slot := 5998, keyId := 0x314B09E277A0156C#64, counter := 4711, openTick := 90#32,
    coverage := 0xCF#32, cause := .channelReset, endTick := 97#32 }

/-- A burst description for a line with every mode off but write check as given. -/
def descOf (line : Nat) (check : Bool) : BurstDesc :=
  { place := .at line, extent := .full, writeCheck := check, dataMask := false,
    writeInversion := false, readInversion := false }

/-- Bytes on the lanes, eight to a beat, no line asserted. -/
def beatsOf (bytes : List Byte) : List Beat :=
  (List.range (bytes.length / 8)).map fun k =>
    ((bytes.drop (8 * k)).take 8).map fun b => { data := b, asserted := false }

/-- A burst of 64 equal bytes without codes. -/
def plainBurst (b : Byte) : WireBurst := { beats := beatsOf (List.replicate 64 b), codes := none }

/-- The burst of a trailer line whose first eight bytes are a close word. -/
def closeBurst (word : List Byte) : WireBurst :=
  { beats := beatsOf (word ++ List.replicate 56 0xEE#8), codes := none }

/-- CLOSE with declared length 12. -/
def closeWord : List Byte := [0x01#8, 12#8, 0x00#8, 0x00#8, 0x00#8, 0x5A#8, 0x1C#8, 0x07#8]

/-- The part with a description waiting for its data. -/
def awaiting (d : BurstDesc) (s : State) : State := { s with writePath.awaiting := [d] }

/-- Body line 1 and the trailer line of slot 5,998, and the placement of each (section 3.2). -/
def bodyPlace : Placement := { window := 2, record := recordTwo, slot := 5998, pos := 1 }
def trailerPlace : Placement := { window := 2, record := recordTwo, slot := 5998, pos := 3 }

/-- A key block for the base key above, whose transport key is 0. -/
def someBlock (keyId : KeyId) (start limit : Nat) : KeyBlock :=
  { keyId := keyId, start := BitVec.ofNat 32 start, limit := BitVec.ofNat 32 limit,
    enciphered := encipher 0#128 someKey, check := 0xC6A13B#24, unread := 0x00#8 }

/-- A window record of an image. -/
def recordBytes (size base count : Nat) : List Byte :=
  [0x01#8, BitVec.ofNat 8 size] ++ bytesBE 4 base ++ bytesBE 2 (count - 1) ++ bytesBE 2 50 ++
    bytesBE 2 0 ++ [0x00#8, 0x00#8, 0x00#8, 0x00#8]

/-- An image of a revision byte and eight records, ending in a check code. -/
def imageOf (revision : Byte) (record : Nat → List Byte) (code : Nat) : List Byte :=
  [0x49#8, 0x57#8, 0x01#8, revision] ++ bytesBE 2 24999 ++ [0x00#8, 0x00#8] ++
    (List.range 8).flatMap record ++ bytesBE 2 code

def disabledBytes : List Byte := List.replicate 16 0x00#8

/-- The records of image A of section 11.3. -/
def recordsA (w : Nat) : List Byte :=
  if w = 2 then recordBytes 4 13697024 8192
  else if w = 7 then recordBytes 8 133693440 65536 else disabledBytes

/-- Image A, and the same image marked for another revision. -/
def imageA : List Byte := imageOf 0x21#8 recordsA 52219
def imageOtherRevision : List Byte := imageOf 0x1F#8 recordsA 59547

/-- Image C of section 11.3. -/
def imageC : List Byte :=
  imageOf 0x21#8
    (fun w =>
      if w = 2 then recordBytes 4 13697024 8192
      else if w = 3 then recordBytes 4 13729790 16
      else if w = 5 then recordBytes 2 13697024 1 else disabledBytes)
    25328

/-- An image whose windows 2 and 5 overlap (section 13.6). -/
def imageOverlap : List Byte :=
  imageOf 0x21#8
    (fun w =>
      if w = 2 then recordBytes 4 13697024 8192
      else if w = 5 then recordBytes 2 13697024 1 else disabledBytes)
    13743

/-- The check codes of these images, quarter by quarter. -/
theorem test_code_imageA : imageCode (imageA.take 136) = 52219#16 := by
  have h1 : crc 0x1021#16 0xFFFF#16 ((imageA.take 136).take 34) = 47897#16 := by decide +kernel
  have h2 : crc 0x1021#16 47897#16 (((imageA.take 136).drop 34).take 34) = 23793#16 := by
    decide +kernel
  have h3 : crc 0x1021#16 23793#16 (((imageA.take 136).drop 68).take 34) = 12865#16 := by
    decide +kernel
  rw [imageCode_quarters, h1, h2, h3]
  decide +kernel

theorem test_code_imageOtherRevision : imageCode (imageOtherRevision.take 136) = 59547#16 := by
  have h1 : crc 0x1021#16 0xFFFF#16 ((imageOtherRevision.take 136).take 34) = 15080#16 := by
    decide +kernel
  have h2 : crc 0x1021#16 15080#16 (((imageOtherRevision.take 136).drop 34).take 34) = 46809#16 := by
    decide +kernel
  have h3 : crc 0x1021#16 46809#16 (((imageOtherRevision.take 136).drop 68).take 34) = 27855#16 := by
    decide +kernel
  rw [imageCode_quarters, h1, h2, h3]
  decide +kernel

theorem test_code_imageC : imageCode (imageC.take 136) = 25328#16 := by
  have h1 : crc 0x1021#16 0xFFFF#16 ((imageC.take 136).take 34) = 47897#16 := by decide +kernel
  have h2 : crc 0x1021#16 47897#16 (((imageC.take 136).drop 34).take 34) = 60567#16 := by
    decide +kernel
  have h3 : crc 0x1021#16 60567#16 (((imageC.take 136).drop 68).take 34) = 17339#16 := by
    decide +kernel
  rw [imageCode_quarters, h1, h2, h3]
  decide +kernel

theorem test_code_imageOverlap : imageCode (imageOverlap.take 136) = 13743#16 := by
  have h1 : crc 0x1021#16 0xFFFF#16 ((imageOverlap.take 136).take 34) = 47897#16 := by decide +kernel
  have h2 : crc 0x1021#16 47897#16 (((imageOverlap.take 136).drop 34).take 34) = 23793#16 := by
    decide +kernel
  have h3 : crc 0x1021#16 23793#16 (((imageOverlap.take 136).drop 68).take 34) = 52096#16 := by
    decide +kernel
  rw [imageCode_quarters, h1, h2, h3]
  decide +kernel

/-- LOADING, SELF-TEST and FAULT. -/
def inLoading : State := { State.reset with part.state := .loading }
def inSelfTest (o : Operation) : State :=
  { atWork with
    part.state := .selfTest, derivation.inFlight := some o, pools := Vector.replicate 16 [] }
def inFault : State := { atWork with part.state := .fault, pools := Vector.replicate 16 [] }

/-! ### Well-formedness refuses ill-formed commands -/

theorem test_wf_short_beat : (Instr.readDataBurst (List.replicate 8 [])).wellFormed = false := by decide

theorem test_wf_five_beats :
    (Instr.readDataBurst (List.replicate 5 (List.replicate 8 ⟨0x00#8, false⟩))).wellFormed = false := by
  decide

theorem test_wf_seven_codes :
    (Instr.writeDataBurst
      { plainBurst 0x00#8 with codes := some (List.replicate 7 0x00#8) }).wellFormed = false := by
  decide

theorem test_wf_store_counters :
    (Instr.partReset (.holds
      { atWork.store with
        positions := atWork.store.positions.set 4 { keyFour with limit := 1048576 } })).wellFormed =
      false := by
  decide

theorem test_wf_slot : (Instr.contextExpiry 0 65536).wellFormed = false := by decide

theorem test_wf_long_image :
    (Instr.imageTransferComplete (some (List.replicate 139 0xFF#8))).wellFormed = false := by
  decide +kernel

theorem test_wf_good_frame_is_not_bad : (Instr.badFrame [0x01#8, 0x00#8]).wellFormed = false := by
  decide

theorem test_wf_empty_frame : (Instr.badFrame []).wellFormed = false := by decide

theorem test_wf_accepts :
    (Instr.writeDataBurst (plainBurst 0x00#8)).wellFormed = true ∧
      (Instr.contextExpiry 7 65535).wellFormed = true ∧
      (Instr.badFrame [0x7F#8]).wellFormed = true ∧
      (Instr.partReset (.holds atWork.store)).wellFormed = true := by
  decide

/-- The table gives its rows no bits. -/
theorem test_no_word_spells_a_command : decodeTableWord 8 0x01 = none := by decide

/-! ### Public check values -/

/-- The AES-128 example of FIPS-197 (log entry 5). -/
theorem test_cipher_example :
    encipher 0x2b7e151628aed2a6abf7158809cf4f3c#128 0x3243f6a8885a308d313198a2e0370734#128 =
      0x3925841d02dc09fbdc118597196a0b32#128 := by
  decide +kernel

theorem test_cipher_inverse_example :
    decipher someKey 0x69c4e0d86a7b0430d8cdb78070b4c55a#128 =
      0x00112233445566778899aabbccddeeff#128 := by
  decide +kernel

/-- The check line of Table 11-2. -/
theorem test_image_code :
    imageCode [0x31#8, 0x32#8, 0x33#8, 0x34#8, 0x35#8, 0x36#8, 0x37#8, 0x38#8, 0x39#8] =
      0x29B1#16 := by
  decide +kernel

/-- The published check value of the code with the parameters of Table 2-1, over the digits 1 to 9. -/
theorem test_lane_code :
    laneCode [0x31#8, 0x32#8, 0x33#8, 0x34#8, 0x35#8, 0x36#8, 0x37#8, 0x38#8, 0x39#8] = 0xF4#8 ∧
      writeCheckCode [0x31#8, 0x32#8, 0x33#8, 0x34#8, 0x35#8, 0x36#8, 0x37#8, 0x38#8, 0x39#8] =
        0xF4#8 := by
  decide +kernel

/-- The position block Pos(35) and the derivation block D2 of section 7.8. -/
theorem test_cipher_inputs :
    positionBlock 35 2 5998 4711 0x314B09E277A0156C#64 = 0x2302176E00001267314B09E277A0156C#128 ∧
      derivationBlock 0x314B09E277A0156C#64 4711 0x02#8 = 0x314B09E277A0156C0000126700000002#128 := by
  decide +kernel

/-! ### Channel commands: the sequence of section 1.9 -/

/-- Bank 11 open with a row. -/
def bankEleven (row : BitVec 16) : State :=
  { atWork with
    tracker :=
      { atWork.tracker with
        banks := atWork.tracker.banks.set 11 (.opened row)
        mode := { ModeRecord.reset with burstMode := .onTheFly, writeCheck := true } } }

theorem test_rowOpen_reopens :
    (after (.rowOpen 2 3 6700 true) (bankEleven 6699)).tracker.banks[11] = .opened 6700 ∧
      (after (.rowOpen 2 3 6700 true) (bankEleven 6699)).tracker.rowReopen = 1#16 := by
  decide +kernel

theorem test_bankClose : (after (.bankClose 2 3 true) (bankEleven 6699)).tracker.banks[11] = .closed := by
  decide +kernel

theorem test_closeAll : (after (.closeAll true) (bankEleven 6699)).tracker.banks[11] = .closed := by
  decide +kernel

theorem test_write_autoClose :
    (after (.write 2 3 0 true false true) (bankEleven 6700)).writePath.awaiting =
        [{ descOf 13723008 true with extent := .full }] ∧
      (after (.write 2 3 0 true false true) (bankEleven 6700)).tracker.banks[11] = .closed := by
  decide +kernel

theorem test_write_closedBank :
    (after (.write 0 1 16 false false true) (bankEleven 6700)).writePath.awaiting.map (·.place) =
        [.absent .closedBank] ∧
      (after (.write 0 1 16 false false true) (bankEleven 6700)).tracker.closedBankAccess = 1#16 := by
  decide +kernel

theorem test_read_beats :
    (after (.read 2 3 461 false true true) (bankEleven 6699)).reads.map
      (fun d => (d.burst.place, (List.range 4).map (readBeat d.burst.extent d.order d.startBeat.toNat))) =
        [(.at 13721017, [5, 6, 7, 4])] := by
  decide +kernel

theorem test_refresh :
    (after (.refresh true) (bankEleven 12)).tracker.refreshWithOpen = 1#16 ∧
      (after (.refresh true) (bankEleven 12)).tracker.banks[11] = .closed := by
  decide +kernel

theorem test_selfRefreshEntry :
    (after (.selfRefreshEntry true) atWork).tracker.refreshWithOpen = 0#16 := by
  decide +kernel

theorem test_commands_without_effect :
    ([.selfRefreshExit true, .powerDownEntry true, .powerDownExit true, .calibrate true,
        .noOperation true, .deselect true] : List Instr).all
      (fun c => decide ((after c (bankEleven 5)).tracker = (bankEleven 5).tracker)) = true := by
  decide +kernel

/-- Mode word 5 through bank group 3, bank 1: command parity, write and read inversion. -/
theorem test_modeSet_word_five :
    (after (.modeSet 3 1 0x1804#18 true) atWork).tracker.mode =
      { ModeRecord.reset with commandParity := true, writeInversion := true, readInversion := true } := by
  decide +kernel

theorem test_modeSet_reserved_burst_mode :
    (after (.modeSet 0 0 0x000B#18 true) (bankEleven 5)).tracker.mode.burstMode = .fixed8 ∧
      (after (.modeSet 0 0 0x000B#18 true) (bankEleven 5)).tracker.mode.burstOrder = .interleaved := by
  decide +kernel

theorem test_parity_failure :
    let s := { bankEleven 5 with tracker.mode.commandParity := true }
    (after (.write 2 3 0 false false false) s).tracker.state = .parityRecovery ∧
      (after (.write 2 3 0 false false false) s).writePath.awaiting.map (·.place) =
        [.absent .untracked] := by
  decide +kernel

/-! ### Data bursts: sections 2.10, 2.11, 4.8 and 6.8 -/

/-- Burst 1 of section 2.10: a code of lane 5 disagrees. -/
theorem test_writeDataBurst_check_failure :
    let t := after (.writeDataBurst (plainBurst 0x5A#8)) (awaiting (descOf 13721017 true) withContext)
    t.contexts.map (fun c => (c.coverage, c.rejectCount)) = [(0xCF#32, 1#4)] ∧
      t.writePath.alertCauses = 2#3 ∧ t.writePath.ownAlert = true := by
  decide +kernel

/-- Burst 2 of section 2.10: blocks 4 and 5 are covered, 6 and 7 blanked as rewrites. -/
theorem test_writeDataBurst_rewrites :
    let t := after (.writeDataBurst (plainBurst 0x5A#8)) (awaiting (descOf 13721017 false) withContext)
    t.contexts.map (fun c => (c.coverage, c.torn)) = [(0xFF#32, true)] ∧
      t.ports.dramWrite.map (fun b => (b.beats.drop 4).all
        (·.all fun w => w.data == 0x00#8 && !w.asserted)) = some true := by
  decide +kernel

/-- The close word of slot 42 (section 13.2), and that of a CHOPPED-UPPER burst. -/
theorem test_close_word :
    deliveredCloseWord (descOf 13721019 false) (closeBurst closeWord) =
        { code := 0x01#8, length := 12#8, writerRef := 0x0000005A1C07#48 } ∧
      deliveredCloseWord { descOf 13721019 false with extent := .choppedUpper } (closeBurst closeWord) =
        { code := 0x00#8, length := 0x00#8, writerRef := 0#48 } := by
  decide +kernel

/-- The table of section 4.8: close code, length, torn, coverage; state and flags. -/
theorem test_close_evaluations :
    ([(0x01#8, 12#8, false, 0xFFF#32, .wrapped, 0#16),
      (0x01#8, 10#8, false, 0xFFF#32, .wrapped, 0x10#16),
      (0x01#8, 0#8, false, 0x3FF#32, .short, 0x20#16),
      (0x01#8, 15#8, false, 0xFFF#32, .wrapped, 0x20#16),
      (0x7F#8, 12#8, false, 0xFFF#32, .wrapped, 0x40#16),
      (0x02#8, 12#8, true, 0xFFF#32, .abandoned, 0#16),
      (0x01#8, 10#8, true, 0xFF#32, .torn, 0#16),
      (0x01#8, 3#8, false, 0x87#32, .wrapped, 0x10#16),
      (0x00#8, 0#8, false, 0xFFF#32, .wrapped, 0x60#16)] :
        List (Byte × Byte × Bool × BitVec 32 × TrailerState × BitVec 16)).all
      (fun (code, length, torn, coverage, state, flags) =>
        let c := { someContext with torn := torn, coverage := coverage }
        let w : CloseWord := { code := code, length := length, writerRef := 0#48 }
        decide (closeState c w 12 = state ∧ closeFlags c w 12 = flags)) = true := by
  decide +kernel

/-- Section 2.11: trailer beats 5, 4, 7 and 6, the zero tag as FFh inverted. -/
theorem test_readDataBurst_in_progress :
    let d : ReadDesc :=
      { burst := { descOf 13721019 false with extent := .choppedUpper, readInversion := true }
        startBeat := 5#3, order := .interleaved
        answer := some (inProgressTrailer withContext someContext) }
    ((after (.readDataBurst []) { withContext with reads := [d] }).ports.readData.map fun beats =>
      beats.drop 2 |>.take 1) = some [List.replicate 8 ⟨0xFF#8, true⟩] := by
  decide +kernel

/-- The masked numbers of section 6.8: 16 digits, 12 digits, and an unreadable count. -/
theorem test_masked_numbers :
    packNibbles (inspectBytes descriptor).masked =
        [0x53#8, 0x71#8, 0x42#8, 0xAA#8, 0xAA#8, 0xAA#8, 0x12#8, 0x06#8, 0xFF#8, 0xFF#8] ∧
      (inspectBytes descriptor).checkDigitFail = false ∧
      (inspectBytes (descriptor.set 9 0x07#8)).checkDigitFail = true ∧
      (inspectBytes (descriptor.set 1 0x16#8)).unreadable = true := by
  decide +kernel

/-! ### Lines, time and part reset -/

theorem test_dramAlertAssertion_not_own :
    (after .dramAlertAssertion atWork).writePath.alertCauses = 4#3 := by decide +kernel

theorem test_dramAlertDeassertion :
    (after .dramAlertDeassertion
      { atWork with inputs.dramAlert := true, tracker.state := .parityRecovery }).tracker.state =
        .tracking := by
  decide +kernel

theorem test_checkFailurePulseEnd :
    alertLine (after .checkFailurePulseEnd { atWork with writePath.pulses := 1 }) = false := by
  decide +kernel

theorem test_channelReset :
    (after .channelReset withContext).expired = [{ someEntry with endTick := 100#32 }] ∧
      dramResetLine (after .channelReset withContext) = true := by
  decide +kernel

theorem test_channelResetRelease :
    dramResetLine (after .channelResetRelease
      { atWork with inputs.controllerReset := true }) = false := by
  decide +kernel

/-- Section 9.4: last write at 4,294,967,000, T = 2,000; the context expires at tick 1,704. -/
def agedContext (ticks : Tick) : State :=
  { atWork with
    contexts := [{ someContext with lastWrite := 4294967000#32 }], time.ticks := ticks }

theorem test_tick_expires_across_the_wrap :
    (after .tick (agedContext 1703#32)).expired.map (fun e => (e.cause, e.endTick)) =
        [(.timeout, 1704#32)] ∧
      (after .tick (agedContext 1702#32)).expired = [] := by
  decide +kernel

theorem test_contextExpiry :
    (after (.contextExpiry 2 5998) (agedContext 1704#32)).contexts = [] ∧
      (after (.contextExpiry 2 5998) (agedContext 1703#32)).expired = [] := by
  decide +kernel

theorem test_partReset :
    (after (.partReset .kept) withContext).part.state = .reset ∧
      (after (.partReset .kept) withContext).store = atWork.store := by
  decide +kernel

theorem test_partResetRelease :
    (after .partResetRelease State.reset).part.state = .loading ∧
      dramResetLine (after .partResetRelease State.reset) = true := by
  decide +kernel

/-- Images A and C of section 11.3. -/
theorem test_images_A_and_C : checkImage imageA = .valid ∧ checkImage imageC = .window 3 := by
  constructor
  · rw [checkImage, test_code_imageA]
    decide +kernel
  · rw [checkImage, test_code_imageC]
    decide +kernel

/-- The overlap named in section 13.6. -/
theorem test_image_overlap : checkImage imageOverlap = .overlap 2 5 := by
  rw [checkImage, test_code_imageOverlap]
  decide +kernel

theorem test_imageTransferComplete_signature :
    (after (.imageTransferComplete (some [])) inLoading).part.state = .passOnly ∧
      (after (.imageTransferComplete (some [])) inLoading).loader.outcome = .signature := by
  decide +kernel

/-- The STATUS answer of section 13.6. -/
theorem test_status_after_an_overlap :
    readTransaction
        (after .status
          { State.reset with part.state := .passOnly, loader.outcome := .overlap 2 5 })
        0x36#7 8 =
      some [0x00#8, 0x01#8, 0x18#8, 0x21#8, 0x04#8, 0x08#8, 0x02#8, 0x05#8] := by
  decide +kernel

theorem test_knownAnswerTestComplete_fails :
    (after (.knownAnswerTestComplete false) (inSelfTest .knownAnswer)).part.state = .fault := by
  decide +kernel

theorem test_checkValueRecomputationComplete :
    (after .checkValueRecomputationComplete (inSelfTest (.recompute 5 (some someKey)))).part.state =
        .active ∧
      (after .checkValueRecomputationComplete (inSelfTest (.recompute 5 (some 0#128)))).store.positions[5].state =
        .empty := by
  decide +kernel

/-! ### Keys -/

/-- The derivation of counter 4,720 completes for position 4 (section 8.3). -/
def refillFour : State :=
  { atWork with
    pools := atWork.pools.set 4 [entry 4718, entry 4719]
    store.positions := atWork.store.positions.set 4 { keyFour with next := 4721 }
    derivation.inFlight :=
      some (.refill 4 4720 1#32 (some (someKey, 0x314B09E277A0156C#64))) }

theorem test_refillCompletion :
    (after .refillCompletion refillFour).pools[4].map (·.counter) = [4718, 4719, 4720] ∧
      (after .refillCompletion
        { refillFour with
          store.positions :=
            refillFour.store.positions.set 4
              { keyFour with next := 4721, generation := 2#32 } }).pools[4].length = 2 := by
  decide +kernel

/-- Section 12.7: a load into position 5 completes beside the ACTIVE position 4. -/
theorem test_keyLoadUnwrapCompletion :
    let s :=
      { atWork with
        derivation.inFlight := some (.unwrap 5 (some (someBlock 0x5A11C3082E9470D1#64 0 1048575)))
        link.loadInProgress := true }
    (after .keyLoadUnwrapCompletion s).store.positions[5].state = .ready ∧
      (after .keyLoadUnwrapCompletion s).link.answer.code = .ok := by
  decide +kernel

theorem test_tamper :
    (after .tamper withContext).store.positions[4].state = .empty ∧
      (after .tamper withContext).windows[2].freeze.tamper = true := by
  decide +kernel

theorem test_tamperLineInactive :
    (after .tamperLineInactive { atWork with inputs.tamperLine := true }).inputs.tamperLine = false := by
  decide +kernel

theorem test_keyLoad_accepted :
    (after (.keyLoad 5 (someBlock 0x5A11C3082E9470D1#64 0 1048575)) refillFour).link.answer.code =
        .busy ∧
      (after (.keyLoad 5 (someBlock 0x314B09E277A0156C#64 0 1)) refillFour).link.answer.code =
        .duplicateId := by
  decide +kernel

theorem test_keyErase_rolls_over :
    (after (.keyErase 4) atWork).store.positions[4].generation = 2#32 ∧
      (after (.keyErase 4) atWork).store.positions[5].state = .active := by
  decide +kernel

theorem test_keySwitch :
    (after (.keySwitch 2) atWork).store.positions[4].state = .spent ∧
      (after (.keySwitch 2) atWork).link.answer.code = .ok := by
  decide +kernel

/-! ### The other management frames -/

theorem test_windowStatus_length :
    (after (.windowStatus 2) withContext).link.answer.data.length = 48 ∧
      ((after (.windowStatus 2) withContext).link.answer.data.drop 1).take 6 =
        [0x03#8, 0x04#8, 0x00#8, 0xD1#8, 0x00#8, 0x00#8] := by
  decide +kernel

theorem test_keyStatus_length :
    (after (.keyStatus 5) atWork).link.answer.data.length = 22 ∧
      (after (.keyStatus 5) atWork).link.answer.data.take 3 = [0x01#8, 0x6C#8, 0x20#8] := by
  decide +kernel

theorem test_freeze : (after (.freeze 2) atWork).windows[2].freeze.management = true := by decide +kernel

theorem test_thaw :
    (after (.thaw 2) (after (.freeze 2) atWork)).windows[2].freeze.management = false := by
  decide +kernel

theorem test_noticeAck :
    (after (.noticeAck 0x41#8) { atWork with part.notices := 0x43#7 }).part.notices = 0x02#7 ∧
      (after (.noticeAck 0x80#8) atWork).link.answer.code = .badParam := by
  decide +kernel

theorem test_alertClear :
    (after .alertClear { atWork with writePath.alertCauses := 7#3 }).writePath.alertCauses = 0#3 := by
  decide +kernel

theorem test_tamperClear_line_active :
    (after .tamperClear { atWork with inputs.tamperLine := true }).link.answer.code = .lineActive := by
  decide +kernel

theorem test_badFrame :
    (after (.badFrame [0x7F#8, 0x00#8]) atWork).link.answer =
      { code := .badFrame, echo := 0x7F#8, data := [] } := by
  decide +kernel

theorem test_reference_clock :
    after .tick (after .referenceClockStop atWork) = after .referenceClockStop atWork ∧
      (after .referenceClockResume (after .referenceClockStop atWork)) = atWork := by
  decide +kernel

/-! ### Witnesses: states that meet the hypotheses of the statements

Each theorem is named after its statement and shows that its hypotheses hold together, clause by
clause, at boundary values where a clause has a range. -/

/-- Sixteen entries, the most an expired list holds, of other slots. -/
def sixteenEntries : List ExpiredEntry :=
  (List.range 16).map fun i => { someEntry with slot := i }

/-- A part with a full expired list, and the same at the last period before a tick. -/
def fullList : State := { withContext with expired := sixteenEntries }
def lastPeriod : State := { fullList with time.count := 24999 }

theorem witness_StepRunsFrontCommand :
    ({ atWork with pending := [.tick, .status] }).pending = .tick :: [.status] := rfl

theorem witness_IdlePeriodsMakeATick :
    lastPeriod.pending = [] ∧ PastLoading lastPeriod ∧ lastPeriod.inputs.clockRunning = true ∧
      lastPeriod.time.prescaler = some 25000 ∧ lastPeriod.time.count < 25000 ∧
      lastPeriod.time.count + 0 < 25000 ∧ atWork.time.count + 24999 < 25000 := by
  decide +kernel

theorem witness_TickAndExpiryEndQuietContexts :
    PastLoading fullList ∧ fullList.inputs.clockRunning = true ∧ fullList.expired.length ≤ 16 ∧
      due fullList 2095#32 someContext = true ∧ due fullList 2094#32 someContext = false ∧
      ¬ (PastLoading inLoading ∧ inLoading.inputs.clockRunning = true) := by
  decide +kernel

theorem witness_StoppedClockIsNoTime :
    atWork.pending = [] ∧ atWork.inputs.clockRunning = true := by decide +kernel

/-- Parity on, in a state that takes commands. -/
def parityOn : State := { bankEleven 5 with tracker.mode.commandParity := true }

/-- The hypotheses of RowOpenTaken, BankCloseAndCloseAllTaken, RefreshClosesEveryBank, ModeSetTaken,
WriteTaken and ReadTaken: parity off with any indication, or on and passed; a bank OPEN and one
CLOSED. -/
theorem witness_commands_taken :
    TrackerTakes (bankEleven 5) ∧ PassesParity (bankEleven 5) false ∧ TrackerTakes parityOn ∧
      PassesParity parityOn true ∧ (bankEleven 5).tracker.banks[bankIndex 2 3] = .opened 5 ∧
      (bankEleven 5).tracker.banks[bankIndex 0 0] = .closed ∧
      (∀ i : Fin 16, atWork.tracker.banks[i] = .closed) ∧
      ∃ i : Fin 16, (bankEleven 5).tracker.banks[i] ≠ .closed := by
  decide +kernel

theorem witness_CommandsThatTakeNothing :
    (TrackerTakes parityOn → PassesParity parityOn true) ∧
      (TrackerTakes inLoading → PassesParity inLoading false) := by
  decide +kernel

theorem witness_CommandsNotTaken :
    ¬ TrackerTakes inLoading ∧ ¬ TrackerTakes { atWork with inputs.controllerReset := true } ∧
      ¬ TrackerTakes { atWork with tracker.state := .parityRecovery } ∧
      channelParity (.refresh true) ≠ none := by
  decide +kernel

theorem witness_ParityFailureEntersRecovery :
    channelParity (.write 3 3 1023 true true false) = some false ∧
      channelParity (.read 0 0 0 false false false) = some false ∧
      channelParity (.modeSet 0 0 0 false) = some false ∧ TrackerTakes parityOn ∧
      parityOn.tracker.mode.commandParity = true := by
  decide +kernel

theorem witness_EveryChannelCommandIsForwarded :
    channelParity (.deselect false) ≠ none ∧ channelParity (.rowOpen 3 3 0xFFFF true) ≠ none := by
  decide

theorem witness_FoldIsOneToOneOntoTheLines :
    foldLine 0xFFFF (bankIndex 3 3) 1016 = 134217727 ∧ 134217727 ≤ 134217727 ∧
      foldLine 0 (bankIndex 0 0) 7 = foldLine 0 (bankIndex 0 0) 0 := by
  decide +kernel

theorem witness_BurstGeometry :
    (7 : Nat) < 8 ∧ readBeat .full .interleaved 7 7 = 0 ∧
      readBeat .choppedUpper .sequential 7 3 = 6 := by
  decide

theorem witness_ChannelResetSweepsTrackerAndContexts :
    PastLoading fullList ∧ fullList.inputs.controllerReset = false ∧ fullList.expired.length ≤ 16 := by
  decide +kernel

theorem witness_LineEvents :
    ¬ PastLoading inLoading ∧ PastLoading atWork ∧ atWork.inputs.dramAlert = false ∧
      atWork.tracker.state = .tracking ∧ atWork.writePath.ownAlert = false ∧
      ({ atWork with writePath.ownAlert := true }).writePath.ownAlert = true ∧
      ({ atWork with inputs.dramAlert := true }).inputs.dramAlert = true := by
  decide +kernel

/-- The first and the last line of window 2, a slot's trailer line, and the lines on either side of the
window. -/
theorem witness_LinePlacement :
    placeLine atWork 13697024 = some { window := 2, record := recordTwo, slot := 0, pos := 0 } ∧
      placeLine atWork 13729791 =
        some { window := 2, record := recordTwo, slot := 8191, pos := 3 } ∧
      placeLine atWork 13721017 = some bodyPlace ∧ placeLine atWork 13721019 = some trailerPlace ∧
      recordTwo.wellFormed = true ∧ placeLine atWork 13697023 = none ∧
      placeLine atWork 13729792 = none ∧ (∀ w : Fin 8, inLoading.windows[w].record = none) ∧
      ∀ v : Fin 8, v ≠ 2 → ∀ q ∈ atWork.windows[v].record, q.enabled = false := by
  decide +kernel

theorem witness_ComposedBurstsStoreTheChosenBytes :
    (∀ b ∈ List.replicate 4 (List.replicate 8 0x5A#8), b.length = 8) ∧
      (descOf 13721017 true).writeCheck = true := by
  decide

/-- CLOSED_BANK and UNTRACKED descriptions, and one of a line outside every window. -/
def closedDesc : BurstDesc := { descOf 0 true with place := .absent .closedBank }
def untrackedDesc : BurstDesc := { descOf 0 true with place := .absent .untracked }
def outsideDesc : BurstDesc := descOf 13697023 true

theorem witness_BurstsThatAreNotCaptures :
    (awaiting closedDesc atWork).writePath.awaiting = [closedDesc] ∧
      Captures (awaiting closedDesc atWork) ∧ closedDesc.place = .absent .closedBank ∧
      ¬ Captures (awaiting closedDesc inLoading) ∧
      ¬ Captures (awaiting closedDesc { atWork with part.state := .passOnly }) ∧
      ¬ Captures (awaiting closedDesc { atWork with inputs.controllerReset := true }) ∧
      untrackedDesc.place = .absent .untracked ∧
      outsideDesc.place = .at 13697023 ∧ placeLine atWork 13697023 = none := by
  decide +kernel

theorem witness_CheckFailureRejectsTheBurst :
    Captures (awaiting (descOf 13721017 true) withContext) ∧
      placeLine (awaiting (descOf 13721017 true) withContext) 13721017 = some bodyPlace ∧
      (descOf 13721017 true).writeCheck = true ∧
      (plainBurst 0x5A#8).codes ≠ some (laneCodes (plainBurst 0x5A#8).beats) := by
  decide +kernel

/-- A burst for the line of a placement in window 2 is a passing capture where the part captures. -/
theorem passing (s : State) (line : Nat) (burst : WireBurst) (pl : Placement) (hc : Captures s)
    (hp : placeLine s line = some pl) :
    PassingCapture (awaiting (descOf line false) s) (descOf line false) [] burst pl where
  captures := hc
  awaiting := rfl
  placed := ⟨line, rfl, hp⟩
  passes := fun h => nomatch h

theorem witness_CapturesBlankedOutsideActive :
    PassingCapture (awaiting (descOf 13721017 false) inFault) (descOf 13721017 false) []
        (plainBurst 0x5A#8) bodyPlace ∧
      PassingCapture
        (awaiting (descOf 13721019 false) (inSelfTest .knownAnswer)) (descOf 13721019 false) []
        (plainBurst 0x5A#8) trailerPlace ∧
      inFault.part.state ≠ .active ∧ (inSelfTest .knownAnswer).part.state ≠ .active := by
  refine ⟨passing _ _ _ _ ?_ ?_, passing _ _ _ _ ?_ ?_, ?_⟩ <;> decide +kernel

/-- Window 2 frozen; without an ACTIVE key; starved; and with 32 contexts of other slots. -/
def frozen : State := after (.freeze 2) atWork
def noKey : State := after .tamperClear (after .tamperLineInactive (after .tamper atWork))
def starved : State := { atWork with pools := atWork.pools.set 4 [] }
def manyContexts (n : Nat) : State :=
  { atWork with contexts := (List.range n).map fun i => { someContext with slot := i } }

theorem witness_OpeningRefusals :
    (∀ s ∈ [frozen, noKey, starved, manyContexts 32],
      PassingCapture (awaiting (descOf 13721017 false) s) (descOf 13721017 false) []
        (plainBurst 0x5A#8) bodyPlace) ∧
      bodyPlace.isTrailer = false ∧
      (∀ s ∈ [frozen, noKey, starved, manyContexts 32],
        s.part.state = .active ∧ NoContext s bodyPlace) ∧
      frozen.windows[2].freeze.management = true ∧
      noKey.windows[2].freeze = { management := false, tamper := false } ∧
      (∀ p : Fin 16, ownerWindow p = 2 → noKey.store.positions[p].state ≠ .active) ∧
      TheActivePosition starved 2 4 ∧ starved.pools[4] = [] ∧
      TheActivePosition (manyContexts 32) 2 4 ∧ (manyContexts 32).pools[4] ≠ [] ∧
      32 ≤ (manyContexts 32).contexts.length := by
  refine ⟨?_, by decide +kernel⟩
  intro s hs
  simp only [List.mem_cons, List.not_mem_nil, or_false] at hs
  rcases hs with rfl | rfl | rfl | rfl <;>
    exact passing _ _ _ _ (by decide +kernel) (by decide +kernel)

/-- The 32nd context opens; the last counter of a load is drawn. -/
def lastDraw : State :=
  { manyContexts 31 with
    pools := atWork.pools.set 4 [entry 4720]
    store.positions := atWork.store.positions.set 4 { keyFour with next := 4721 } }

theorem witness_OpeningDrawsThePoolHead :
    PassingCapture (awaiting (descOf 13721017 false) lastDraw) (descOf 13721017 false) []
        (plainBurst 0x5A#8) bodyPlace ∧
      lastDraw.part.state = .active ∧ bodyPlace.isTrailer = false ∧ NoContext lastDraw bodyPlace ∧
      lastDraw.windows[2].freeze = { management := false, tamper := false } ∧
      TheActivePosition lastDraw 2 4 ∧ lastDraw.pools[4] = entry 4720 :: [] ∧
      lastDraw.contexts.length < 32 := by
  refine ⟨passing _ _ _ _ ?_ ?_, ?_⟩ <;> decide +kernel

theorem witness_BodyBurstTakenIntoContext :
    PassingCapture (awaiting (descOf 13721017 false) withContext) (descOf 13721017 false) []
        (plainBurst 0x5A#8) bodyPlace ∧
      withContext.part.state = .active ∧ bodyPlace.isTrailer = false ∧
      findContext withContext.contexts bodyPlace.window bodyPlace.slot = some someContext := by
  refine ⟨passing _ _ _ _ ?_ ?_, ?_⟩ <;> decide +kernel

/-- One masked byte, the last of block 7, under data mask. -/
def maskedBurst : WireBurst :=
  { beats :=
      (plainBurst 0x5A#8).beats.take 7 ++ [List.replicate 7 ⟨0x5A#8, false⟩ ++ [⟨0x5A#8, true⟩]]
    codes := none }
def maskedDesc : BurstDesc := { descOf 13721017 false with dataMask := true }

theorem witness_BodyBlocksOfABurst :
    maskedBurst.beats.length = maskedDesc.extent.beats ∧
      (∀ beat ∈ maskedBurst.beats, beat.length = 8) ∧
      (bodyBlocks maskedDesc maskedBurst 1).map (fun b => (b.number, b.zeroFilled)) =
        [(4, false), (5, false), (6, false), (7, true)] ∧
      (descOf 13721017 false).dataMask = false := by
  decide +kernel

theorem witness_BlockOrderDoesNotMatter :
    ((bodyBlocks (descOf 13721017 false) (plainBurst 0x5A#8) 0).map (·.number)).Nodup ∧
      (bodyBlocks (descOf 13721017 false) (plainBurst 0x5A#8) 0).Perm
        (bodyBlocks (descOf 13721017 false) (plainBurst 0x5A#8) 0).reverse :=
  ⟨by decide +kernel, (List.reverse_perm _).symm⟩

theorem witness_TrailerBurstClosesContext :
    PassingCapture (awaiting (descOf 13721019 false) withContext) (descOf 13721019 false) []
        (closeBurst closeWord) trailerPlace ∧
      withContext.part.state = .active ∧ trailerPlace.isTrailer = true ∧
      findContext withContext.contexts trailerPlace.window trailerPlace.slot = some someContext := by
  refine ⟨passing _ _ _ _ ?_ ?_, ?_⟩ <;> decide +kernel

/-- An expired list with two entries for the slot, and one without any. -/
def twoEntries : State :=
  { atWork with expired := [{ someEntry with counter := 4700 }, someEntry, { someEntry with slot := 1 }] }

theorem witness_TrailerBurstWithoutContext :
    PassingCapture (awaiting (descOf 13721019 false) twoEntries) (descOf 13721019 false) []
        (closeBurst closeWord) trailerPlace ∧
      twoEntries.part.state = .active ∧ trailerPlace.isTrailer = true ∧
      NoContext twoEntries trailerPlace ∧
      twoEntries.expired =
        [{ someEntry with counter := 4700 }] ++ someEntry :: [{ someEntry with slot := 1 }] ∧
      someEntry.window = trailerPlace.window ∧ someEntry.slot = trailerPlace.slot ∧
      (∀ x ∈ [{ someEntry with slot := 1 }],
        ¬ (x.window = trailerPlace.window ∧ x.slot = trailerPlace.slot)) ∧
      ∀ x ∈ atWork.expired, ¬ (x.window = trailerPlace.window ∧ x.slot = trailerPlace.slot) := by
  refine ⟨passing _ _ _ _ ?_ ?_, ?_⟩ <;> decide +kernel

/-- A complete record, which wraps, of a capacity of 8 blocks, and an ABANDON word. -/
def completeContext : Context := { someContext with coverage := 0xFF#32 }

theorem witness_CloseTrailerFields :
    closeState completeContext { code := 0x01#8, length := 8#8, writerRef := 0#48 } 8 = .wrapped ∧
      closeState completeContext { code := 0x02#8, length := 8#8, writerRef := 0#48 } 8 ≠ .wrapped := by
  decide +kernel

theorem witness_CloseTrailerBounds :
    completeContext.counter ≤ 1048575 ∧
      (∀ j, 8 ≤ j → completeContext.coverage.getLsbD j = false) ∧
      completeContext.inspection.isSome = completeContext.coverage.getLsbD 0 ∧
      ∀ r ∈ completeContext.inspection,
        ∃ (inspects : Bool) (plain : Block), r = inspectionOf inspects plain := by
  refine ⟨by decide, ?_, by decide +kernel, ?_⟩
  · intro j hj
    by_cases h : j < 32
    · have : ∀ j : Fin 32, 8 ≤ j.val → completeContext.coverage.getLsbD j.val = false := by
        decide +kernel
      exact this ⟨j, h⟩ hj
    · exact BitVec.getLsbD_of_ge _ _ (by omega)
  · intro r hr
    refine ⟨true, blockOfBytes descriptor, ?_⟩
    have h : inspectBytes descriptor = inspectionOf true (blockOfBytes descriptor) := by
      decide +kernel
    rw [← h]
    exact ((Option.mem_some_iff).1 hr).symm

theorem witness_TrailerBytesTellEveryField :
    (inProgressTrailer withContext someContext).masked.length = 20 ∧
      (inProgressTrailer withContext someContext).slot < 65536 ∧
      (faultTrailer 7 65535).masked.length = 20 ∧ (faultTrailer 7 65535).slot < 65536 := by
  decide +kernel

/-- READ descriptions without and with a synthesized trailer. -/
def plainRead : ReadDesc :=
  { burst := descOf 13721017 false, startBeat := 7#3, order := .sequential, answer := none }
def answeredRead : ReadDesc := { plainRead with answer := some (faultTrailer 2 5998) }

theorem witness_ReadDataPassedOrReplaced :
    ({ atWork with reads := [plainRead, answeredRead] }).reads = plainRead :: [answeredRead] ∧
      plainRead.answer = none ∧ answeredRead.answer = some (faultTrailer 2 5998) := by
  decide +kernel

theorem witness_SynthesizedTrailers :
    placeLine withContext 13721019 = some trailerPlace ∧ trailerPlace.isTrailer = true ∧
      withContext.part.state = .active ∧
      findContext withContext.contexts trailerPlace.window trailerPlace.slot = some someContext ∧
      placeLine inFault 13721019 = some trailerPlace ∧ inFault.part.state = .fault ∧
      placeLine withContext 13721017 = some bodyPlace ∧ bodyPlace.isTrailer = false ∧
      NoContext atWork trailerPlace := by
  decide +kernel

/-- Counts at the bounds, and a digit above 9 in the last place. -/
theorem witness_CardInspectionResult :
    descriptor.length = 16 ∧
      (∀ n ∈ [12, 19], 12 ≤ n ∧ n ≤ 19 ∧
        ∀ i < n, ((digitField (List.replicate 16 0x11#8)).getD i 0#4).toNat ≤ 9) ∧
      ¬ (12 ≤ 11 ∧ 11 ≤ 19) ∧ ¬ (12 ≤ 20 ∧ 20 ≤ 19) ∧
      ¬ ((digitField (List.replicate 16 0x1A#8)).getD 11 0#4).toNat ≤ 9 := by
  decide +kernel

/-- Pointer 15, so position 0 is looked at first; position 15 last. -/
def needy (p : Fin 16) : State :=
  { State.reset with
    part.state := .active
    windows := Vector.replicate 8 { Window.blank with record := some recordTwo }
    store.positions := (Vector.replicate 16 Config.blankPosition).set p keyFour }

theorem witness_DerivationUnitTakesUpNext :
    (∃ s : State, s.part.state = .active ∧ s.derivation.inFlight = none ∧
      s.derivation.pendingLoad = some (5, someBlock 1#64 0 1)) ∧
      (needy 0).part.state = .active ∧ (needy 0).derivation.inFlight = none ∧
      (needy 0).derivation.pendingLoad = none ∧
      needsRefill (needy 0) 0 = true ∧ (0 : Fin 16).val = ((needy 0).derivation.pointer.val + 1 + 0) % 16 ∧
      needsRefill (needy 15) 15 = true ∧
      (15 : Fin 16).val = ((needy 15).derivation.pointer.val + 1 + 15) % 16 ∧
      (∀ q : Fin 16, q ≠ 15 → needsRefill (needy 15) q = false) ∧
      (needy 15).store.positions[(15 : Fin 16)].baseKey = some someKey ∧
      (∀ q : Fin 16, needsRefill atWork q = false) ∧ inFault.part.state ≠ .active :=
  ⟨⟨{ atWork with derivation.pendingLoad := some (5, someBlock 1#64 0 1) }, by decide +kernel⟩,
    by decide +kernel⟩

theorem witness_RefillCompletes :
    refillFour.derivation.inFlight =
        some (.refill 4 4720 1#32 (some (someKey, 0x314B09E277A0156C#64))) ∧
      refillFour.store.positions[(4 : Fin 16)].generation = 1#32 ∧
      InUse refillFour.store.positions[(4 : Fin 16)] ∧
      ¬ InUse (after (.keyErase 4) refillFour).store.positions[(4 : Fin 16)] ∧
      (after .tamper refillFour).derivation.inFlight = some (.refill 4 4720 1#32 none) := by
  decide +kernel

/-- A key load in flight for a READY and for an ACTIVE position. -/
def unwrapping (p : Fin 16) : State :=
  { atWork with
    derivation.inFlight := some (.unwrap p (some (someBlock 0x5A11C3082E9470D1#64 0 1048575)))
    link.loadInProgress := true }

theorem witness_UnwrapCompletes :
    (unwrapping 5).derivation.inFlight =
        some (.unwrap 5 (some (someBlock 0x5A11C3082E9470D1#64 0 1048575))) ∧
      (encipher (decipher (unwrapping 5).transportKey
          (someBlock 0x5A11C3082E9470D1#64 0 1048575).enciphered) 0#128).extractLsb' 104 24 =
        0xC6A13B#24 ∧
      (unwrapping 5).store.positions[(5 : Fin 16)].state ≠ .active ∧
      (unwrapping 4).store.positions[(4 : Fin 16)].state = .active ∧
      (after .tamper (unwrapping 5)).derivation.inFlight = some (.unwrap 5 none) := by
  decide +kernel

/-- A SPENT position 5, for a load of its own identifier. -/
def spentFive : State :=
  { atWork with store.positions := atWork.store.positions.set 5 (turnedSpent keyFive) }

theorem witness_KeyLoadChecksInOrder :
    LinkFree atWork ∧ (16#8 : Byte).toNat = 16 ∧ (15 : Fin 16).val = (15#8 : Byte).toNat ∧
      (5 : Fin 16).val = (5#8 : Byte).toNat ∧ HoldsRecords atWork ∧
      ¬ Enabled atWork (ownerWindow 15) ∧ Enabled atWork (ownerWindow 5) ∧
      LinkFree inFault ∧ inFault.part.state ≠ .active ∧ atWork.part.state = .active ∧
      ({ atWork with store.latch := true }).store.latch = true ∧ atWork.store.latch = false ∧
      atWork.store.positions[(4 : Fin 16)].state = .active ∧
      spentFive.store.positions[(5 : Fin 16)].state ≠ .active ∧
      (∃ q : Fin 16, q ≠ 5 ∧ spentFive.store.positions[q].state ≠ .empty ∧
        spentFive.store.positions[q].keyId = 0x314B09E277A0156C#64) ∧
      (∀ q : Fin 16, q ≠ 5 → spentFive.store.positions[q].state ≠ .empty →
        spentFive.store.positions[q].keyId ≠ 0x6C20813D9E04B752#64) ∧
      ¬ ((someBlock 1#64 0 1048576).limit.toNat ≤ 1048575) ∧
      (someBlock 1#64 1048575 1048575).start.toNat ≤ (someBlock 1#64 1048575 1048575).limit.toNat := by
  decide +kernel

theorem witness_KeyEraseAndKeySwitch :
    LinkFree atWork ∧ (15 : Fin 16).val = (15#8 : Byte).toNat ∧ (inFault.part.state = .fault) ∧
      LinkFree inFault ∧ (2 : Fin 8).val = (2#8 : Byte).toNat ∧ Enabled atWork 2 ∧
      TheActivePosition atWork 2 4 ∧ atWork.store.positions[partner 4].state = .ready ∧
      (∀ p : Fin 16, ownerWindow p = 2 → ¬ (spentFive.store.positions[p].state = .active ∧
        spentFive.store.positions[partner p].state = .ready)) := by
  decide +kernel

/-- The tamper line active in RESET, the latch clear and set. -/
theorem witness_PartResetReleaseBeginsLoading :
    State.reset.part.state = .reset ∧ State.reset.inputs.tamperLine = false ∧
      ({ State.reset with inputs.tamperLine := true }).store.latch = false ∧
      ({ State.reset with store.latch := true }).store.latch = true ∧
      State.reset.expired.length ≤ 16 := by
  decide +kernel

theorem witness_TamperDestroysKeysAndFreezes :
    fullList.inputs.tamperLine = false ∧ State.reset.part.state = .reset ∧
      fullList.part.state ≠ .reset ∧ fullList.store.latch = false ∧ fullList.expired.length ≤ 16 ∧
      ({ fullList with store.latch := true }).store.latch = true := by
  decide +kernel

theorem witness_ImageChecksInOrder :
    (∀ image ∈ [imageA, imageOtherRevision, imageC, imageOverlap], image.length = 138) ∧
      (byteAt imageA 0 = 0x49#8 ∧ byteAt imageA 1 = 0x57#8 ∧ byteAt imageA 2 = 0x01#8) ∧
      (crc 0x1021#16 0xFFFF#16 (imageA.take 136)).toNat =
        (byteAt imageA 136).toNat * 256 + (byteAt imageA 137).toNat ∧
      (byteAt imageA 3).toNat / 16 = 2 ∧
      ¬ ((crc 0x1021#16 0xFFFF#16 (imageOtherRevision.take 136)).toNat = 52219) ∧
      ¬ ((byteAt imageOtherRevision 3).toNat / 16 = 2) ∧
      (imageRecord imageC 3).enabled = true ∧ ¬ RecordHolds (imageRecord imageC 3) ∧
      SharesLine (imageRecord imageOverlap 2) (imageRecord imageOverlap 5) ∧
      (∀ i j : Fin 8, i < j → ¬ SharesLine (imageRecord imageA i) (imageRecord imageA j)) ∧
      ∀ w : Fin 8, ¬ ((imageRecord imageA w).enabled = true ∧ ¬ RecordHolds (imageRecord imageA w)) := by
  have ha : crc 0x1021#16 0xFFFF#16 (imageA.take 136) = 52219#16 := test_code_imageA
  have ho : crc 0x1021#16 0xFFFF#16 (imageOtherRevision.take 136) = 59547#16 :=
    test_code_imageOtherRevision
  rw [ha, ho]
  decide +kernel

theorem witness_ImageTransferDecidesTheOutcome :
    inLoading.part.state = .loading ∧ inLoading.inputs.clockRunning = true ∧
      checkImage ((imageA ++ List.replicate 138 0xFF#8).take 138) = .valid ∧
      checkImage (([] ++ List.replicate 138 0xFF#8).take 138) ≠ .valid := by
  have h : (imageA ++ List.replicate 138 0xFF#8).take 138 = imageA := by decide +kernel
  rw [h]
  exact ⟨rfl, rfl, test_images_A_and_C.1, by decide +kernel⟩

/-- SELF-TEST with the marker present and absent, and with no key to check. -/
def keyless : State :=
  { inSelfTest .knownAnswer with
    store.positions := Vector.replicate 16 Config.blankPosition }

theorem witness_KnownAnswerTestCompletes :
    (∀ s ∈ [inSelfTest .knownAnswer, keyless,
        { inSelfTest .knownAnswer with store.marker := false }],
      s.part.state = .selfTest ∧ s.derivation.inFlight = some .knownAnswer ∧
      s.derivation.pendingLoad = none ∧ (∀ p : Fin 16, s.pools[p] = []) ∧
      (∀ w : Fin 8, ¬ (s.store.positions[positionA w].state = .active ∧
        s.store.positions[positionB w].state = .active))) ∧
      (inSelfTest .knownAnswer).store.marker = true ∧
      InUse (inSelfTest .knownAnswer).store.positions[(4 : Fin 16)] ∧
      (∀ q : Fin 16, q < 4 → ¬ InUse (inSelfTest .knownAnswer).store.positions[q]) ∧
      (inSelfTest .knownAnswer).store.positions[(4 : Fin 16)].baseKey = some someKey ∧
      ∀ p : Fin 16, ¬ InUse keyless.store.positions[p] := by
  decide +kernel

theorem witness_RecomputationCompletes :
    (∀ p ∈ [(4 : Fin 16), 5],
      let s := inSelfTest (.recompute p (some someKey))
      s.part.state = .selfTest ∧ s.derivation.inFlight = some (.recompute p (some someKey)) ∧
      s.derivation.pendingLoad = none ∧ (∀ q : Fin 16, s.pools[q] = []) ∧
      (∀ w : Fin 8, ¬ (s.store.positions[positionA w].state = .active ∧
        s.store.positions[positionB w].state = .active))) ∧
      InUse keyFive ∧ keyFive.baseKey = some someKey ∧
      (∀ r : Fin 16, 4 < r → r < 5 → ¬ InUse atWork.store.positions[r]) ∧
      (∀ q : Fin 16, 5 < q → ¬ InUse atWork.store.positions[q]) ∧
      some ((encipher someKey 0#128).extractLsb' 104 24) = keyFour.check ∧
      some ((encipher 0#128 0#128).extractLsb' 104 24) ≠ keyFour.check := by
  decide +kernel

theorem witness_FreezeAcknowledgeAndClear :
    LinkFree atWork ∧ (2 : Fin 8).val = (2#8 : Byte).toNat ∧ HoldsRecords atWork ∧ Enabled atWork 2 ∧
      (127#8 : Byte).toNat < 128 ∧ 128 ≤ (128#8 : Byte).toNat ∧ LinkFree inFault ∧
      inFault.part.state = .fault ∧ ({ atWork with inputs.tamperLine := true }).inputs.tamperLine = true ∧
      atWork.inputs.tamperLine = false ∧ LinkFree inLoading ∧
      LinkFree (inSelfTest .knownAnswer) := by
  decide +kernel

theorem witness_StatusCommandsReport :
    LinkFree atWork ∧ HoldsRecords atWork ∧ (7 : Fin 8).val = (7#8 : Byte).toNat ∧
      atWork.windows[(7 : Fin 8)].record = some recordOff ∧ recordOff.enabled = false ∧
      atWork.windows[(2 : Fin 8)].record = some recordTwo ∧ recordTwo.enabled = true ∧
      (15 : Fin 16).val = (15#8 : Byte).toNat := by
  decide +kernel

theorem witness_BusyAndBadFrames :
    (Instr.keySwitch 0xFF#8).wellFormed = true ∧
      frameBytes (.keySwitch 0xFF#8) = some (0x12#8 :: [0x01#8, 0xFF#8]) ∧
      State.reset.part.state = .reset ∧
      ({ atWork with inputs.clockRunning := false }).inputs.clockRunning = false ∧
      (unwrapping 5).part.state ≠ .reset ∧ (unwrapping 5).inputs.clockRunning = true ∧
      (unwrapping 5).link.loadInProgress = true ∧ LinkFree atWork ∧
      (Instr.badFrame [0x12#8, 0x01#8]).wellFormed = true ∧
      frameBytes (.badFrame [0x12#8, 0x01#8]) = some (0x12#8 :: [0x01#8]) := by
  decide +kernel

theorem witness_RangeAndStateRefusals :
    LinkFree atWork ∧ 8 ≤ (8#8 : Byte).toNat ∧ 16 ≤ (16#8 : Byte).toNat ∧
      (7 : Fin 8).val = (7#8 : Byte).toNat ∧ HoldsRecords atWork ∧ ¬ Enabled atWork 7 ∧
      LinkFree inLoading ∧ ¬ HoldsRecords inLoading ∧ LinkFree inFault ∧
      inFault.part.state = .fault ∧ Enabled inFault 2 ∧ (15#8 : Byte).toNat < 16 ∧
      LinkFree (inSelfTest .knownAnswer) ∧ (inSelfTest .knownAnswer).part.state ≠ .active ∧
      (inSelfTest .knownAnswer).part.state ≠ .fault := by
  decide +kernel

theorem witness_FrameBytesNameTheirCommand :
    (Instr.noticeAck 0xFF#8).wellFormed = true ∧
      frameBytes (.noticeAck 0xFF#8) = some [0x30#8, 0x01#8, 0xFF#8] ∧
      (Instr.badFrame [0x7F#8]).wellFormed = true ∧
      frameBytes (.badFrame [0x7F#8]) = some [0x7F#8] ∧ (0x37#7 : BitVec 7) ≠ 0x36#7 := by
  decide +kernel

/-! The invariants hold of the part at work with a context, a full list and a waiting tick, and the
step of that tick has a next state. -/

/-- The part with a tick waiting. -/
def ticking : State := { fullList with pending := [.tick] }

theorem witness_StepsKeepTheContextTable :
    ContextTableInv ticking ∧ ∃ t, step ticking = .next t := by
  refine ⟨⟨?_, ?_, ?_, ?_, ?_⟩, _, rfl⟩ <;> decide +kernel

theorem phase_atWork_like (s : State) (hp : s.part = atWork.part) (hw : s.windows = atWork.windows)
    (ht : s.time = atWork.time) (hd : s.derivation = atWork.derivation)
    (hl : s.link = atWork.link) : PhaseInv s where
  tables_active := fun h => absurd (by rw [hp]; rfl) h
  records_none := fun h => absurd (by rw [HoldsRecords, hp]; exact .inr (.inl rfl)) h
  records_loaded := fun _ => by rw [hw]; decide +kernel
  time_held := fun h => absurd (by rw [PastLoading, hp]; exact ⟨nofun, nofun⟩) h
  time_runs := fun _ => by rw [ht]; exact ⟨25000, rfl, by decide, by decide, by decide⟩
  tracker_held := fun h => absurd (by rw [PastLoading, hp]; exact ⟨nofun, nofun⟩) h
  self_test := fun h => by rw [hp] at h; exact nomatch h
  active_work := fun _ o ho => by rw [hd] at ho; exact nomatch ho
  idle_work := fun _ h => absurd (by rw [hp]; rfl) h
  pending_waits := fun h => absurd (by rw [hd]; rfl) h
  mark := by
    rw [hl, hd]
    constructor
    · exact fun h => nomatch h
    · rintro (h | ⟨p, b, h⟩)
      · exact absurd rfl h
      · exact nomatch h

theorem witness_StepsKeepThePhaseAndCoverage :
    PhaseInv ticking ∧ CoverageInv ticking ∧ ∃ t, step ticking = .next t := by
  refine ⟨phase_atWork_like _ rfl rfl rfl rfl rfl, ?_, _, rfl⟩
  intro c hc
  obtain rfl : c = someContext := List.mem_singleton.1 hc
  refine ⟨recordTwo, by decide +kernel, rfl, by decide, ?_, by decide +kernel⟩
  intro j hj
  have hj : 12 ≤ j := hj
  by_cases h : j < 32
  · have : ∀ j : Fin 32, 12 ≤ j.val → someContext.coverage.getLsbD j.val = false := by decide +kernel
    exact this ⟨j, h⟩ hj
  · exact BitVec.getLsbD_of_ge _ _ (by omega)

theorem fits_blank : PositionFits Config.blankPosition [] := by
  refine ⟨?_, ?_, ?_, ?_, ?_, ?_, ?_⟩ <;> decide +kernel

theorem fits_four :
    PositionFits keyFour [entry 4716, entry 4717, entry 4718, entry 4719] := by
  refine ⟨?_, ?_, ?_, ?_, ?_, ?_, ?_⟩ <;> decide +kernel

theorem fits_five : PositionFits keyFive [entry 0, entry 1, entry 2, entry 3] := by
  refine ⟨?_, ?_, ?_, ?_, ?_, ?_, ?_⟩ <;> decide +kernel

theorem keys_atWork : KeyTableInv ticking where
  fits := by
    intro p
    by_cases h4 : p = 4
    · subst h4; exact fits_four
    · by_cases h5 : p = 5
      · subst h5; exact fits_five
      · have hx : ∀ p : Fin 16, p ≠ 4 → p ≠ 5 →
            ticking.store.positions[p] = Config.blankPosition ∧ ticking.pools[p] = [] := by
          decide +kernel
        rw [(hx p h4 h5).1, (hx p h4 h5).2]
        exact fits_blank
  unique := by decide +kernel
  one_active := by decide +kernel
  ready_partner := fun _ => by decide +kernel
  reserved := fun p n g k h => nomatch h
  load_pending := fun p b h => nomatch h
  load_flying := fun p b h => nomatch h

theorem witness_KeepsStore :
    KeepsStore (.partReset (.holds Config.firstStore)) ∧
      ¬ KeepsStore (.partReset (.holds atWork.store)) := by
  constructor
  · exact rfl
  · exact fun h => nomatch (h : true = false)

theorem witness_StepsKeepTheKeyTable : StoreInv ticking ∧ ∃ t, step ticking = .next t := by
  refine ⟨⟨phase_atWork_like _ rfl rfl rfl rfl rfl, fun _ => keys_atWork, ?_, ?_⟩, _, rfl⟩
  · intro _ h
    exact nomatch h
  · intro c hc
    obtain rfl : c = .tick := List.mem_singleton.1 hc
    trivial

theorem witness_WholePartRules :
    (∃ t, exec .tick frozen = .next t) ∧ frozen.windows[(2 : Fin 8)].freeze.management = true ∧
      ∃ t, exec (.writeDataBurst (closeBurst closeWord))
          (awaiting (descOf 13721019 false) withContext) = .next t :=
  ⟨⟨_, rfl⟩, by decide +kernel, ⟨_, rfl⟩⟩

end Sys2Proof.Tests
end

section
/-! SUPPORT. The command tracker (section 1): BANK CLOSE and CLOSE ALL. -/

namespace Sys2Proof.Machine

/-! ### The commands and the parts of the tracker they change -/

theorem exec_bankClose (g b : BitVec 2) (ok : Bool) (s : State) :
    exec (.bankClose g b ok) s = .next
      (channelCommand (.bankClose g b ok) ok (closeBank (bankIndex g b)) id s) := rfl

theorem exec_closeAll (ok : Bool) (s : State) :
    exec (.closeAll ok) s = .next (channelCommand (.closeAll ok) ok closeAllBanks id s) := rfl

/-- R5, R18: a close counts nothing, unlike an opening of an entry already OPEN (`openRow`). -/
theorem closeBank_eq (i : Fin 16) (s : State) :
    closeBank i s = { s with tracker.banks := s.tracker.banks.set i .closed } := rfl

/-- R5, R7: unlike REFRESH (`refreshBanks`), it does not matter whether an entry was OPEN. -/
theorem closeAllBanks_eq (s : State) :
    closeAllBanks s = { s with tracker.banks := Vector.replicate 16 .closed } := rfl

/-! ### Taken in TRACKING (R5) -/

theorem exec_bankClose_taken (g b : BitVec 2) (ok : Bool) (s : State) (ht : TrackerTakes s)
    (hp : PassesParity s ok) :
    exec (.bankClose g b ok) s = .next
      (closeBank (bankIndex g b) { s with ports.dramCommand := some (.bankClose g b ok) }) := by
  rw [exec_bankClose, channelCommand_taken _ _ _ _ _ ht hp]

theorem exec_closeAll_taken (ok : Bool) (s : State) (ht : TrackerTakes s)
    (hp : PassesParity s ok) :
    exec (.closeAll ok) s = .next
      (closeAllBanks { s with ports.dramCommand := some (.closeAll ok) }) := by
  rw [exec_closeAll, channelCommand_taken _ _ _ _ _ ht hp]

/-- Settles O6: both commands are taken, and what is taken writes the bank table only. -/
theorem bankCloseAndCloseAllTaken : Obligations.BankCloseAndCloseAllTaken := by
  intro g b ok s ht hp
  constructor
  · rw [exec_bankClose_taken g b ok s ht hp, closeBank_eq]
  · rw [exec_closeAll_taken ok s ht hp, closeAllBanks_eq]

end Sys2Proof.Machine
end

section
/-! SUPPORT. Write bursts (section 2): which meaning a capture burst gets, and the check failure. -/

namespace Sys2Proof.Machine

/-! ### The description and the treatment of a burst (R22) -/

theorem exec_writeDataBurst_described {burst : WireBurst} {d : BurstDesc} {rest : List BurstDesc}
    {s : State} (ha : s.writePath.awaiting = d :: rest) :
    exec (.writeDataBurst burst) s =
      .next (handleWriteBurst d burst { s with writePath.awaiting := rest }) := by
  show execWriteDataBurst burst s = _
  rw [execWriteDataBurst, ha]

/-- R22: a part that captures is in none of the states that leave every burst unchanged. -/
theorem not_unchanged_of_captures {s : State} (hc : Captures s) :
    (untrackedNow s || s.part.state == .passOnly) = false := by
  obtain ⟨hstate, hreset⟩ := hc
  unfold untrackedNow
  rcases hstate with h | h | h <;> simp [h, hreset, PartState.afterLoading]

theorem classify_of_placed {s : State} {d : BurstDesc} {line : Nat} {pl : Placement}
    (hc : Captures s) (hd : d.place = .at line) (hp : placeLine s line = some pl) :
    classify s d = if pl.isTrailer then .trailer pl else .body pl := by
  rw [classify, not_unchanged_of_captures hc, hd]
  exact congrArg treatmentOf hp

/-! ### The write check (R25) -/

theorem passesCheck_eq_false_iff (d : BurstDesc) (burst : WireBurst) :
    passesCheck d burst = false ↔
      d.writeCheck = true ∧ burst.codes ≠ some (laneCodes burst.beats) := by
  simp [passesCheck]

/-- R26: the check stands before the split into body and trailer, so either kind is rejected alike. -/
theorem handleWriteBurst_of_check_fails {s : State} {d : BurstDesc} {burst : WireBurst}
    {line : Nat} {pl : Placement} (hc : Captures s) (hd : d.place = .at line)
    (hp : placeLine s line = some pl) (hf : passesCheck d burst = false) :
    handleWriteBurst d burst s = checkFailure d pl s := by
  rw [handleWriteBurst, classify_of_placed hc hd hp]
  cases pl.isTrailer <;> simp [hf]

/-! ### Bursts of zeros (R28) -/

theorem laneCodes_replicate (n : Nat) (b : WireByte) :
    laneCodes (List.replicate n (List.replicate 8 b)) =
      List.replicate 8 (laneCode (List.replicate n b.data)) := by
  refine List.eq_replicate_iff.2 ⟨by simp [laneCodes], fun code hcode => ?_⟩
  obtain ⟨lane, hmem, rfl⟩ := List.mem_map.1 hcode
  have hlane : lane < 8 := List.mem_range.1 hmem
  simp only [List.map_replicate, List.getD_replicate _ hlane]

/-- R28: a zero byte holds eight 0 bits, so write inversion always sends it complemented. -/
theorem sentByte_zero (inversion : Bool) :
    sentByte inversion 0#8 =
      if inversion then { data := 0xFF#8, asserted := true }
      else { data := 0x00#8, asserted := false } := by
  cases inversion <;> decide

theorem composedBurst_zeroBeats (d : BurstDesc) (complemented : Bool) :
    composedBurst d (zeroBeats d) complemented = zeroBurst d complemented := by
  simp only [composedBurst, zeroBurst, zeroBeats, List.map_replicate, sentByte_zero,
    laneCodes_replicate]

/-! ### The check failure (R26) -/

/-- R70: the reject count rises for the context of the window and slot alone. -/
theorem countReject_eq (w : Fin 8) (slot : Nat) (s : State) :
    countReject w slot s =
      { s with
        contexts :=
          s.contexts.map fun c =>
            if c.window = w ∧ c.slot = slot then { c with rejectCount := saturated c.rejectCount }
            else c } := by
  simp [countReject, Context.isFor, satInc_eq_saturated]

theorem checkFailure_eq (d : BurstDesc) (pl : Placement) (s : State) :
    checkFailure d pl s =
      { s with
        ports.dramWrite := some (zeroBurst d true)
        writePath :=
          { s.writePath with
            checkFails := saturated s.writePath.checkFails
            ownAlert := true
            pulses := s.writePath.pulses + 1
            alertCauses := s.writePath.alertCauses ||| 2#3 }
        contexts :=
          s.contexts.map fun c =>
            if c.window = pl.window ∧ c.slot = pl.slot then
              { c with rejectCount := saturated c.rejectCount }
            else c } := by
  rw [checkFailure, countReject_eq, rejectedBurst, composedBurst_zeroBeats, satInc_eq_saturated]
  rfl

/-- Settles O22: the burst is placed and fails its check, so the meaning is `checkFailure`; taking its
description off the queue moves nothing that places or checks it. -/
theorem checkFailureRejectsTheBurst : Obligations.CheckFailureRejectsTheBurst := by
  intro burst d rest line pl s ha hc hd hp hw hcodes
  have hf : passesCheck d burst = false := (passesCheck_eq_false_iff d burst).2 ⟨hw, hcodes⟩
  rw [exec_writeDataBurst_described ha,
    handleWriteBurst_of_check_fails (s := { s with writePath.awaiting := rest }) hc hd hp hf,
    checkFailure_eq]

end Sys2Proof.Machine
end

section
/-! SUPPORT. Slot contexts (section 4): the body blocks of a burst taken into a context. -/

namespace Sys2Proof.Machine

/-! ### A capture burst that passes its check (R22, R25) -/

theorem passesCheck_of_passing {s : State} {d : BurstDesc} {rest : List BurstDesc}
    {burst : WireBurst} {pl : Placement} (h : PassingCapture s d rest burst pl) :
    passesCheck d burst = true := by
  by_contra hf
  obtain ⟨hw, hcodes⟩ := (passesCheck_eq_false_iff d burst).1 (Bool.eq_false_iff.2 hf)
  exact hcodes (h.passes hw)

/-- R23: such a burst is a trailer-line burst or a body burst by its line alone; taking its description
off the queue moves nothing that places or checks it. -/
theorem exec_writeDataBurst_passing {s : State} {d : BurstDesc} {rest : List BurstDesc}
    {burst : WireBurst} {pl : Placement} (h : PassingCapture s d rest burst pl) :
    exec (.writeDataBurst burst) s =
      .next
        (if pl.isTrailer then trailerBurst d burst pl { s with writePath.awaiting := rest }
        else bodyBurst d burst pl { s with writePath.awaiting := rest }) := by
  obtain ⟨line, hd, hp⟩ := h.placed
  rw [exec_writeDataBurst_described h.awaiting, handleWriteBurst,
    classify_of_placed (s := { s with writePath.awaiting := rest }) h.captures hd hp]
  cases pl.isTrailer <;> simp [passesCheck_of_passing h]

/-- A placement's record is the one that its window holds. -/
theorem record_of_passing {s : State} {d : BurstDesc} {rest : List BurstDesc} {burst : WireBurst}
    {pl : Placement} (h : PassingCapture s d rest burst pl) :
    s.windows[pl.window].record = some pl.record := by
  obtain ⟨line, -, hp⟩ := h.placed
  exact (placeLine_some hp).1

/-! ### Blocks with distinct numbers (R32, R66) -/

theorem bodyBlocks_numbers_nodup (d : BurstDesc) (burst : WireBurst) (p : Nat) :
    ((bodyBlocks d burst p).map (·.number)).Nodup := by
  have hinj : Function.Injective fun i => (bodyBlock d burst p i).number :=
    fun i j hij => Nat.add_left_cancel hij
  rw [bodyBlocks, List.map_map]
  exact List.nodup_range.map hinj

/-- R66: covering a block moves no other block's mark. -/
theorem getLsbD_cover_of_ne (coverage : BitVec 32) {n k : Nat} (hne : k ≠ n) :
    (coverage ||| 1#32 <<< n).getLsbD k = coverage.getLsbD k := by
  have hbit : (1#32 <<< n).getLsbD k = false := by
    simp only [BitVec.getLsbD_shiftLeft, BitVec.getLsbD_one]
    grind
  rw [BitVec.getLsbD_or, hbit, Bool.or_false]

theorem find?_number_zero_eq_none {b : BodyBlock} {blocks : List BodyBlock} (hb : b.number = 0)
    (hne : ∀ x ∈ blocks, x.number ≠ b.number) :
    (blocks.find? fun x => x.number == 0) = none :=
  List.find?_eq_none.2 fun x hx => by simpa [hb] using hne x hx

/-- R69: block 0 is found wherever it stands, since no second block has its number. -/
theorem inspectionAfter_cons (inspects : Bool) (before : Option Inspection) {b : BodyBlock}
    {blocks : List BodyBlock} (hne : ∀ x ∈ blocks, x.number ≠ b.number) :
    inspectionAfter inspects (inspectionAfter inspects before [b]) blocks =
      inspectionAfter inspects before (b :: blocks) := by
  by_cases hb : b.number = 0
  · simp [inspectionAfter, hb, find?_number_zero_eq_none hb hne]
  · simp [inspectionAfter, hb]

/-! ### Blocks taken into a context (R66, R67, R69) -/

/-- The blocks that a context has not covered. -/
def Context.fresh (c : Context) (blocks : List BodyBlock) : List BodyBlock :=
  blocks.filter fun b => !c.coverage.getLsbD b.number

/-- A context after it has taken blocks of distinct numbers; the last-write tick is as it was. -/
def Context.afterBlocks (inspects : Bool) (c : Context) (blocks : List BodyBlock) : Context :=
  { c with
    coverage := coverWith c.coverage (c.fresh blocks)
    tagSum := sumWith c c.tagSum (c.fresh blocks)
    torn := c.torn || blocks.any fun b => c.coverage.getLsbD b.number
    zeroFilled := c.zeroFilled || (c.fresh blocks).any (·.zeroFilled)
    inspection := inspectionAfter inspects c.inspection (c.fresh blocks) }

/-- The block returned for one taken: blanked when it is a rewrite, enciphered otherwise. -/
def Context.returned (c : Context) (b : BodyBlock) : Block :=
  if c.coverage.getLsbD b.number then 0#128 else enciphered c b

/-- R67: a rewrite changes nothing but the torn flag. -/
theorem takeBlock_covered (inspects : Bool) {c : Context} {b : BodyBlock}
    (hc : c.coverage.getLsbD b.number = true) :
    (takeBlock inspects c b).1 = { c with torn := true } := by
  rw [takeBlock_eq, if_pos hc]

theorem takeBlock_uncovered (inspects : Bool) {c : Context} {b : BodyBlock}
    (hc : c.coverage.getLsbD b.number = false) :
    (takeBlock inspects c b).1 =
      { c with
        coverage := c.coverage ||| 1#32 <<< b.number
        tagSum := sumWith c c.tagSum [b]
        zeroFilled := c.zeroFilled || b.zeroFilled
        inspection := inspectionAfter inspects c.inspection [b] } := by
  rw [takeBlock_eq, if_neg (Bool.eq_false_iff.1 hc)]

theorem takeBlock_returned (inspects : Bool) (c : Context) (b : BodyBlock) :
    (takeBlock inspects c b).2 = c.returned b := by
  rw [takeBlock_eq, Context.returned]
  split <;> rfl

/-- R66, R67: a block of another number is judged as before the block was taken. -/
theorem coverage_takeBlock_of_ne (inspects : Bool) (c : Context) {b : BodyBlock} {k : Nat}
    (hne : k ≠ b.number) :
    (takeBlock inspects c b).1.coverage.getLsbD k = c.coverage.getLsbD k := by
  cases hc : c.coverage.getLsbD b.number with
  | true => rw [takeBlock_covered inspects hc]
  | false => rw [takeBlock_uncovered inspects hc, getLsbD_cover_of_ne _ hne]

theorem fresh_takeBlock (inspects : Bool) (c : Context) {b : BodyBlock} {rest : List BodyBlock}
    (hne : ∀ x ∈ rest, x.number ≠ b.number) :
    (takeBlock inspects c b).1.fresh rest = c.fresh rest :=
  List.filter_congr fun x hx => by rw [coverage_takeBlock_of_ne inspects c (hne x hx)]

theorem returned_takeBlock (inspects : Bool) (c : Context) {b x : BodyBlock}
    (hne : x.number ≠ b.number) : (takeBlock inspects c b).1.returned x = c.returned x := by
  rw [Context.returned, Context.returned, coverage_takeBlock_of_ne inspects c hne]
  cases hc : c.coverage.getLsbD b.number with
  | true => rw [takeBlock_covered inspects hc]; rfl
  | false => rw [takeBlock_uncovered inspects hc]; rfl

/-- Taking a burst is taking its first block and then the others, which find the coverage that the
context had before. -/
theorem afterBlocks_takeBlock (inspects : Bool) (c : Context) {b : BodyBlock}
    {rest : List BodyBlock} (hne : ∀ x ∈ rest, x.number ≠ b.number) :
    (takeBlock inspects c b).1.afterBlocks inspects rest = c.afterBlocks inspects (b :: rest) := by
  have hany : (rest.any fun x => (takeBlock inspects c b).1.coverage.getLsbD x.number) =
      rest.any fun x => c.coverage.getLsbD x.number := by
    rw [Bool.eq_iff_iff, List.any_eq_true, List.any_eq_true]
    exact exists_congr fun x => and_congr_right fun hx => by
      rw [coverage_takeBlock_of_ne inspects c (hne x hx)]
  rw [Context.afterBlocks, Context.afterBlocks, fresh_takeBlock inspects c hne, hany]
  cases hc : c.coverage.getLsbD b.number with
  | true =>
    have hfresh : c.fresh (b :: rest) = c.fresh rest := by simp [Context.fresh, hc]
    rw [takeBlock_covered inspects hc, hfresh]
    simp [hc, sumWith]
  | false =>
    have hfresh : c.fresh (b :: rest) = b :: c.fresh rest := by simp [Context.fresh, hc]
    have hne' : ∀ x ∈ c.fresh rest, x.number ≠ b.number :=
      fun x hx => hne x (List.mem_filter.1 hx).1
    rw [takeBlock_uncovered inspects hc, hfresh, ← inspectionAfter_cons inspects _ hne']
    simp [hc, coverWith, sumWith, Bool.or_assoc]

/-- R66, R67: each block of a burst meets the coverage that the context had before the burst, for no
block of the burst covers another. -/
theorem takeBlocks_eq (inspects : Bool) (blocks : List BodyBlock) :
    ∀ c : Context, (blocks.map (·.number)).Nodup →
      takeBlocks inspects c blocks = (c.afterBlocks inspects blocks, blocks.map c.returned) := by
  induction blocks with
  | nil =>
    intro c _
    simp [takeBlocks, Context.afterBlocks, Context.fresh, coverWith, sumWith, inspectionAfter]
  | cons b rest ih =>
    intro c hn
    obtain ⟨hb, hrest⟩ := List.nodup_cons.1 hn
    have hne : ∀ x ∈ rest, x.number ≠ b.number :=
      fun x hx he => hb (List.mem_map.2 ⟨x, hx, he⟩)
    have hreturned : rest.map (takeBlock inspects c b).1.returned = rest.map c.returned :=
      List.map_congr_left fun x hx => returned_takeBlock inspects c (hne x hx)
    rw [takeBlocks]
    simp only [ih _ hrest, afterBlocks_takeBlock inspects c hne, hreturned, takeBlock_returned,
      List.map_cons]

/-! ### A body burst for a slot with a context (4.3) -/

/-- A context after a burst of blocks of distinct numbers: the last-write tick moves when some block is
fresh (R68). -/
def Context.afterBurst (inspects : Bool) (now : Tick) (c : Context) (blocks : List BodyBlock) :
    Context :=
  { c.afterBlocks inspects blocks with
    lastWrite := if c.fresh blocks = [] then c.lastWrite else now }

theorem enciphersSome_eq_false_iff (c : Context) (blocks : List BodyBlock) :
    enciphersSome c blocks = false ↔ c.fresh blocks = [] := by
  simp [enciphersSome, Context.fresh]

theorem takeBurst_eq (inspects : Bool) (now : Tick) (c : Context) {blocks : List BodyBlock}
    (hn : (blocks.map (·.number)).Nodup) :
    takeBurst inspects now c blocks =
      (c.afterBurst inspects now blocks, blocks.map c.returned) := by
  rw [takeBurst, takeBlocks_eq inspects blocks c hn]
  simp only [Context.afterBurst, ← enciphersSome_eq_false_iff]
  cases enciphersSome c blocks <;> rfl

theorem replaceContext_eq {c : Context} {w : Fin 8} {slot : Nat} (cs : List Context)
    (hw : c.window = w) (hslot : c.slot = slot) :
    replaceContext c cs = cs.map fun x => if x.window = w ∧ x.slot = slot then c else x := by
  simp [replaceContext, Context.isFor, hw, hslot]

theorem bodyIntoContext_eq (d : BurstDesc) (burst : WireBurst) {pl : Placement} {c : Context}
    {s : State} (hrec : s.windows[pl.window].record = some pl.record)
    (hw : c.window = pl.window) (hslot : c.slot = pl.slot) :
    bodyIntoContext d burst pl c s =
      { s with
        ports.dramWrite := some (returnedBurst d ((bodyBlocks d burst pl.pos).map c.returned))
        contexts :=
          s.contexts.map fun x =>
            if x.window = pl.window ∧ x.slot = pl.slot then
              c.afterBurst pl.record.inspection s.time.ticks (bodyBlocks d burst pl.pos)
            else x } := by
  have hinspects : windowInspects s pl.window = pl.record.inspection := by
    rw [windowInspects, hrec]
  rw [bodyIntoContext, hinspects,
    takeBurst_eq _ _ _ (bodyBlocks_numbers_nodup d burst pl.pos)]
  simp only [replaceContext_eq (c := c.afterBurst _ _ _) s.contexts hw hslot]
  rfl

theorem bodyBurst_of_context {s : State} {pl : Placement} {c : Context} (d : BurstDesc)
    (burst : WireBurst) (hs : s.part.state = .active)
    (hc : findContext s.contexts pl.window pl.slot = some c) :
    bodyBurst d burst pl s = bodyIntoContext d burst pl c s := by
  simp [bodyBurst, hs, hc]

/-- Settles O26: the burst's blocks have distinct numbers, so the context takes each of them by the
coverage it had before the burst. -/
theorem bodyBurstTakenIntoContext : Obligations.BodyBurstTakenIntoContext := by
  intro burst d rest pl c s h hs ht hc
  obtain ⟨-, hw, hslot⟩ := findContext_some hc
  have hrec : s.windows[pl.window].record = some pl.record := record_of_passing h
  rw [exec_writeDataBurst_passing h, ht, if_neg Bool.false_ne_true,
    bodyBurst_of_context (s := { s with writePath.awaiting := rest }) d burst hs hc,
    bodyIntoContext_eq (s := { s with writePath.awaiting := rest }) d burst hrec hw hslot]
  rfl

end Sys2Proof.Machine
end

section
/-! SUPPORT. Trailers (section 5): the close word, the trailer a burst carries, a trailer-line burst for a
slot without a context, and the trailer of a close. -/

namespace Sys2Proof.Machine

/-! ### The close word (R72, Table 13-2) -/

theorem arrivedByte_getD_zero (d : BurstDesc) (w : WireByte) :
    (arrivedByte d w).getD 0#8 = plainByte d w := by
  unfold arrivedByte plainByte
  cases d.writeInversion <;> cases d.dataMask <;> cases w.asserted <;> rfl

theorem deliveredCloseWord_eq_written (d : BurstDesc) (burst : WireBurst) :
    deliveredCloseWord d burst = writtenCloseWord d burst := by
  unfold deliveredCloseWord writtenCloseWord
  simp only [arrivedByte_getD_zero]
  split
  · rfl
  · simp only [closeWordOf, byteAt, List.getD_eq_getElem?_getD]

theorem clamped_iff (w : CloseWord) (capacity : Nat) :
    w.clamped capacity = true ↔ w.length.toNat = 0 ∨ capacity < w.length.toNat := by
  simp [CloseWord.clamped]

theorem declared_eq_lengthTaken (w : CloseWord) (capacity : Nat) :
    w.declared capacity = lengthTaken w.length capacity := by
  simp only [CloseWord.declared, lengthTaken, clamped_iff]
  split <;> split <;> omega

theorem closeWordFlags_eq_wordFlags (w : CloseWord) (capacity : Nat) :
    closeWordFlags w capacity = wordFlags w capacity := by
  have hcode : w.unknownCode = true ↔ ¬ (w.code = 0x01#8 ∨ w.code = 0x02#8) := by
    simp [CloseWord.unknownCode]
  simp only [closeWordFlags, wordFlags, TrailerFlag.when, clamped_iff, hcode, ite_not]
  rfl

/-! ### The trailer of a burst (R33, R34, R52) -/

theorem trailerBeats_eq_trailerPart (e : Extent) (t : Trailer) :
    trailerBeats e t = trailerPart e t := by
  cases e <;> simp [trailerBeats, trailerPart, Trailer.beat, Extent.beats, Extent.firstBeat,
    Nat.add_comm]

theorem sendTrailer_eq (d : BurstDesc) (t : Trailer) (s : State) :
    sendTrailer d t s =
      { s with
        ports.dramWrite := some (composedBurst d (trailerPart d.extent t) false)
        windows :=
          s.windows.set t.window
            { s.windows[t.window] with
              outcomes := outcomesAfter s.windows[t.window].outcomes t.state } } := by
  rw [sendTrailer, trailerBeats_eq_trailerPart, countOutcome, bump_eq_outcomesAfter]
  rfl

/-! ### The slot's entry in the expired list (R76, R84) -/

theorem expiredEntry_isFor_iff (x : ExpiredEntry) (w : Fin 8) (slot : Nat) :
    x.isFor w slot = true ↔ x.window = w ∧ x.slot = slot := by
  simp [ExpiredEntry.isFor]

section
variable {older newer : List ExpiredEntry} {e : ExpiredEntry} {w : Fin 8} {slot : Nat}

theorem newestEntry_append_cons (he : e.isFor w slot = true)
    (hnewer : ∀ x ∈ newer, ¬ x.isFor w slot = true) :
    newestEntry (older ++ e :: newer) w slot = some e := by
  have hnone : newer.reverse.find? (fun x => x.isFor w slot) = none :=
    List.find?_eq_none.2 fun x hx => hnewer x (List.mem_reverse.1 hx)
  simp [newestEntry, List.find?_append, hnone, he]

theorem withoutNewest_append_cons (he : e.isFor w slot = true)
    (hnewer : ∀ x ∈ newer, ¬ x.isFor w slot = true) :
    withoutNewest (older ++ e :: newer) w slot = older ++ newer := by
  have hskip : ∀ x ∈ newer.reverse, ¬ x.isFor w slot = true :=
    fun x hx => hnewer x (List.mem_reverse.1 hx)
  simp [withoutNewest, List.eraseP_append_right _ hskip, he]

theorem newestEntry_eq_none {l : List ExpiredEntry} (hl : ∀ x ∈ l, ¬ x.isFor w slot = true) :
    newestEntry l w slot = none :=
  List.find?_eq_none.2 fun x hx => hl x (List.mem_reverse.1 hx)

end

/-! ### A trailer-line burst for a slot without a context (R76, R96, R97) -/

theorem trailerBurst_of_noContext {s : State} {pl : Placement} (d : BurstDesc) (burst : WireBurst)
    (hs : s.part.state = .active) (hc : NoContext s pl) :
    trailerBurst d burst pl s = closeWithoutContext d (writtenCloseWord d burst) pl s := by
  have hnone : findContext s.contexts pl.window pl.slot = none :=
    (findContext_none s.contexts pl.window pl.slot).2 hc
  simp [trailerBurst, hs, hnone, deliveredCloseWord_eq_written]

/-- R96: an EXPIRED trailer is the slot's ORPHAN trailer with what the entry tells put in. -/
theorem expiredTrailer_eq {e : ExpiredEntry} {window : Fin 8} {slot : Nat}
    (hw : e.window = window) (hslot : e.slot = slot) (w : CloseWord) (capacity : Nat) (now : Tick)
    (seq : BitVec 32) :
    expiredTrailer e w capacity seq =
      { orphanTrailer window slot w capacity now seq with
        state := .expired
        flags := closeWordFlags w capacity ||| e.cause.flag.mask
        keyId := e.keyId
        counter := BitVec.ofNat 32 e.counter
        openTick := e.openTick
        closeTick := e.endTick
        coverage := e.coverage } := by
  subst hw hslot
  rw [expiredTrailer, BitVec.or_comm]
  rfl

theorem trailerBurst_expired {s : State} {pl : Placement} {older newer : List ExpiredEntry}
    {e : ExpiredEntry} (d : BurstDesc) (burst : WireBurst)
    (hs : s.part.state = .active) (hc : NoContext s pl) (hl : s.expired = older ++ e :: newer)
    (he : e.window = pl.window ∧ e.slot = pl.slot)
    (hnewer : ∀ x ∈ newer, ¬ (x.window = pl.window ∧ x.slot = pl.slot)) :
    trailerBurst d burst pl s =
      sendTrailer d
        (expiredTrailer e (writtenCloseWord d burst) pl.record.capacity s.store.wrapSeq[pl.window])
        { s with expired := older ++ newer } := by
  simp only [← expiredEntry_isFor_iff] at he hnewer
  rw [trailerBurst_of_noContext d burst hs hc]
  simp only [closeWithoutContext, hl, newestEntry_append_cons he hnewer,
    withoutNewest_append_cons he hnewer]

theorem trailerBurst_orphan {s : State} {pl : Placement} (d : BurstDesc) (burst : WireBurst)
    (hs : s.part.state = .active) (hc : NoContext s pl)
    (hl : ∀ x ∈ s.expired, ¬ (x.window = pl.window ∧ x.slot = pl.slot)) :
    trailerBurst d burst pl s =
      sendTrailer d
        (orphanTrailer pl.window pl.slot (writtenCloseWord d burst) pl.record.capacity s.time.ticks
          s.store.wrapSeq[pl.window]) s := by
  simp only [← expiredEntry_isFor_iff] at hl
  rw [trailerBurst_of_noContext d burst hs hc]
  simp only [closeWithoutContext, newestEntry_eq_none hl]

/-- Settles O30: the newest entry of the slot, where there is one, decides which trailer goes out. -/
theorem trailerBurstWithoutContext : Obligations.TrailerBurstWithoutContext := by
  intro burst d rest pl s h hs ht hc
  rw [exec_writeDataBurst_passing h, if_pos ht]
  refine ⟨fun older newer e hl hw hslot hnewer => ?_, fun hl => ?_⟩
  · rw [trailerBurst_expired (s := { s with writePath.awaiting := rest }) d burst hs hc hl
      ⟨hw, hslot⟩ hnewer, expiredTrailer_eq hw hslot (now := s.time.ticks), sendTrailer_eq]
    simp only [orphanTrailer, closeWordFlags_eq_wordFlags, declared_eq_lengthTaken]
    cases e.cause <;> rfl
  · rw [trailerBurst_orphan (s := { s with writePath.awaiting := rest }) d burst hs hc hl,
      sendTrailer_eq]
    simp only [orphanTrailer, closeWordFlags_eq_wordFlags, declared_eq_lengthTaken]
    rfl

/-! ### The trailer of a close (R90 to R95) -/

theorem closeState_eq (c : Context) (w : CloseWord) (capacity : Nat) :
    closeState c w capacity =
      if w.code = 0x02#8 then .abandoned
      else if c.torn then .torn
      else if ∃ j < lengthTaken w.length capacity, c.coverage.getLsbD j = false then .short
      else .wrapped := by
  simp [closeState, CloseWord.abandons, declared_eq_lengthTaken]

theorem contextFlags_eq_shownFlags (c : Context) : contextFlags c = shownFlags c := rfl

theorem closeFlags_eq (c : Context) (w : CloseWord) (capacity : Nat) :
    closeFlags c w capacity =
      (if c.inspection = none then 0x0001#16 else 0#16) ||| shownFlags c |||
        (if (List.range 32).any fun j =>
            decide (lengthTaken w.length capacity ≤ j) && c.coverage.getLsbD j then 0x0010#16
          else 0#16) |||
        wordFlags w capacity := by
  simp only [closeFlags, TrailerFlag.when, extraBlocks, declared_eq_lengthTaken,
    contextFlags_eq_shownFlags, closeWordFlags_eq_wordFlags, Option.isNone_iff_eq_none]
  rfl

/-- R90 step 5: the tag is all that WRAPPED adds. -/
theorem closeTrailer_eq (c : Context) (w : CloseWord) (capacity : Nat) (now : Tick)
    (seq : BitVec 32) :
    closeTrailer c w capacity now seq =
      { untaggedTrailer c w capacity now seq with
        tag :=
          if closeState c w capacity = .wrapped then
            tagOver c (untaggedTrailer c w capacity now seq)
          else 0#64 } := by
  rw [closeTrailer]
  show (if closeState c w capacity = .wrapped then _ else _) = _
  split <;> rfl

/-- Settles O31, field by field of the untagged trailer; the tag is over that trailer's bytes. -/
theorem closeTrailerFields : Obligations.CloseTrailerFields := by
  intro c w capacity now seq
  simp only [closeTrailer_eq]
  refine ⟨closeState_eq c w capacity, closeFlags_eq c w capacity, ?_, fun h => if_neg h,
    fun h => if_pos h⟩
  simp only [untaggedTrailer, declared_eq_lengthTaken]
  cases hi : c.inspection <;> simp [inspectionShown, hi, uninspected, blankMasked]

end Sys2Proof.Machine
end

section
/-! SUPPORT. Synthesized trailers (section 5.5): what answers a READ, for each place and part state. -/

namespace Sys2Proof.Machine

/-! ### The IN_PROGRESS trailer (R99) -/

/-- R99: a context without an inspection result shows the values of an uninspected block. -/
theorem inProgressTrailer_eq (s : State) (c : Context) :
    inProgressTrailer s c =
      { state := .inProgress, window := c.window, rejectCount := c.rejectCount
        flags := shownFlags c, slot := c.slot, keyId := c.keyId
        counter := BitVec.ofNat 32 c.counter
        digitCount := (c.inspection.map (·.digitCount)).getD 0x00#8
        till := (c.inspection.map (·.till)).getD 0x00#8
        kind := (c.inspection.map (·.kind)).getD 0x00#8
        declared := 0x00#8
        masked := (c.inspection.map (·.masked)).getD (List.replicate 20 0xF#4)
        writerRef := 0#48, openTick := c.openTick, closeTick := 0#32, coverage := c.coverage
        wrapSeq := s.store.wrapSeq[c.window], tag := 0#64 } := by
  rw [inProgressTrailer, contextFlags_eq_shownFlags, inspectionShown]
  cases c.inspection <;> rfl

/-! ### What answers a READ, by place and part state (R36, R37, R38) -/

section
variable {s : State} {line : Nat} {pl : Placement}

/-- R37: in ACTIVE the slot's open context decides, if there is one. -/
theorem synthesizedFor_active (hp : placeLine s line = some pl) (ht : pl.isTrailer = true)
    (hs : s.part.state = .active) :
    synthesizedFor s (.at line) =
      (findContext s.contexts pl.window pl.slot).map (inProgressTrailer s) := by
  simp only [synthesizedFor, hp, ht, hs, if_true]

/-- R38: in FAULT the placement alone decides. -/
theorem synthesizedFor_fault (hp : placeLine s line = some pl) (ht : pl.isTrailer = true)
    (hs : s.part.state = .fault) :
    synthesizedFor s (.at line) = some (faultTrailer pl.window pl.slot) := by
  simp only [synthesizedFor, hp, ht, hs, if_true]

theorem synthesizedFor_unplaced (hp : placeLine s line = none) :
    synthesizedFor s (.at line) = none := by
  simp only [synthesizedFor, hp]

theorem synthesizedFor_body (hp : placeLine s line = some pl) (ht : pl.isTrailer = false) :
    synthesizedFor s (.at line) = none := by
  simp only [synthesizedFor, hp, ht, Bool.false_eq_true, if_false]

/-- R37: a slot without a context passes unchanged, whether or not the line is its trailer line. -/
theorem synthesizedFor_noContext (hp : placeLine s line = some pl) (hs : s.part.state = .active)
    (hc : NoContext s pl) : synthesizedFor s (.at line) = none := by
  cases ht : pl.isTrailer with
  | false => exact synthesizedFor_body hp ht
  | true =>
    rw [synthesizedFor_active hp ht hs,
      (findContext_none s.contexts pl.window pl.slot).2 hc, Option.map_none]

end

theorem synthesizedFor_absent (s : State) (reason : Absence) :
    synthesizedFor s (.absent reason) = none := rfl

/-- R36: no trailer is synthesized outside ACTIVE and FAULT, wherever the line stands. -/
theorem synthesizedFor_otherState {s : State} (place : LinePlace) (ha : s.part.state ≠ .active)
    (hf : s.part.state ≠ .fault) : synthesizedFor s place = none := by
  obtain line | reason := place
  · cases hp : placeLine s line with
    | none => exact synthesizedFor_unplaced hp
    | some pl =>
      cases ht : pl.isTrailer with
      | false => exact synthesizedFor_body hp ht
      | true => -- `ha` and `hf` leave the last arm of the match on the state
        simp only [synthesizedFor, hp, ht, if_true]
  · exact synthesizedFor_absent s reason

/-- Settles O35, by the place of the line and the state of the part. -/
theorem synthesizedTrailers : Obligations.SynthesizedTrailers := by
  refine ⟨fun s line pl c hp ht hs hc => ?_, fun s line pl hp ht hs => ?_, fun s place h => ?_⟩
  · rw [synthesizedFor_active hp ht hs, hc, Option.map_some, inProgressTrailer_eq]
  · exact synthesizedFor_fault hp ht hs
  · obtain ⟨ha, hf⟩ | hplace | ⟨line, rfl, hp⟩ | ⟨line, pl, rfl, hp, ht⟩ |
      ⟨line, pl, rfl, hp, hs, hc⟩ := h
    · exact synthesizedFor_otherState place ha hf
    · obtain line | reason := place
      · exact absurd rfl (hplace line)
      · exact synthesizedFor_absent s reason
    · exact synthesizedFor_unplaced hp
    · exact synthesizedFor_body hp ht
    · exact synthesizedFor_noContext hp hs hc

end Sys2Proof.Machine
end

section
/-! SUPPORT. Card number inspection (section 6): the digit field, readability, the check sum by place and
the masked number by position. -/

namespace Sys2Proof.Machine

/-! ### The digit field and readability (R105, R106) -/

/-- R105: ten bytes of two nibbles each. -/
theorem length_digitField {bytes : List Byte} (hlen : bytes.length = 16) :
    (digitField bytes).length = 20 := by
  have hpair : ∀ b : Byte, (nibblesOfByte b).length = 2 := fun _ => rfl
  simp [digitField, List.length_flatMap, hpair, hlen]

/-- R106 position by position. -/
theorem readable_iff {n : Nat} {digits : List Nibble} (hlen : 19 ≤ digits.length) :
    readable n digits = true ↔
      12 ≤ n ∧ n ≤ 19 ∧ ∀ i < n, (digits.getD i 0#4).toNat ≤ 9 := by
  simp only [readable, Bool.and_eq_true, decide_eq_true_eq, List.all_eq_true, and_assoc]
  refine and_congr_right fun _ => and_congr_right fun hn => ?_
  have htake : (digits.take n).length = n := List.length_take_of_le (hn.trans hlen)
  have hget : ∀ i (hi : i < (digits.take n).length), (digits.take n)[i] = digits.getD i 0#4 :=
    fun i hi => by rw [List.getElem_take, List.getD_eq_getElem]
  rw [List.forall_mem_iff_forall_getElem]
  refine ⟨fun h i hi => ?_, fun h i hi => ?_⟩
  · rw [← hget i (hi.trans_eq htake.symm)]
    exact h i _
  · rw [hget i hi]
    exact h i (hi.trans_eq htake)

/-! ### The check sum, place by place (R108) -/

/-- The first digit listed stands at place `start`, counted from 0 so that R108's odd places are even
here; the rest go on from the next place. -/
theorem sumFromRight_cons (start d : Nat) (rest : List Nat) :
    sumFromRight (decide (start % 2 = 0)) (d :: rest) =
      (if start % 2 = 0 then d else doubledDigit d) +
        sumFromRight (decide ((start + 1) % 2 = 0)) rest := by
  obtain heven | hodd := Nat.mod_two_eq_zero_or_one start
  · simp [heven, Nat.succ_mod_two_eq_one_iff.2 heven, sumFromRight]
  · simp [hodd, Nat.succ_mod_two_eq_zero_iff.2 hodd, sumFromRight]

/-- The starting place is general for the induction: the tail of a number starts one place on. -/
theorem sumFromRight_eq_sum_places (digits : List Nat) (start : Nat) :
    sumFromRight (decide (start % 2 = 0)) digits =
      ((List.range digits.length).map fun j =>
        if (start + j) % 2 = 0 then digits.getD j 0 else doubledDigit (digits.getD j 0)).sum := by
  induction digits generalizing start with
  | nil => rfl
  | cons d rest ih =>
    rw [sumFromRight_cons, ih, List.length_cons, List.range_succ_eq_map, List.map_cons,
      List.map_map, List.sum_cons]
    simp only [Function.comp_def, Nat.succ_eq_add_one, List.getD_cons_succ, List.getD_cons_zero,
      Nat.add_zero, Nat.add_assoc, Nat.add_comm 1]

/-- Reading the first `n` digits from the right, place `j + 1` is position `n - (j + 1)`. -/
theorem getD_reverse_take_toNat {n j : Nat} {digits : List Nibble} (hn : n ≤ digits.length)
    (hj : j < n) :
    ((digits.take n).reverse.map BitVec.toNat).getD j 0 = (digits.getD (n - (j + 1)) 0#4).toNat := by
  rw [List.getD_eq_getElem _ _ (by simpa using ⟨hj, by omega⟩),
    List.getD_eq_getElem _ _ (by omega)]
  simp [Nat.min_eq_left hn, Nat.sub_sub, Nat.add_comm 1 j]

theorem checkSum_take {n : Nat} {digits : List Nibble} (hn : n ≤ digits.length) :
    checkSum (digits.take n) =
      ((List.range n).map fun j =>
        if j % 2 = 0 then (digits.getD (n - (j + 1)) 0#4).toNat
        else doubledDigit (digits.getD (n - (j + 1)) 0#4).toNat).sum := by
  have hsum := sumFromRight_eq_sum_places ((digits.take n).reverse.map BitVec.toNat) 0
  rw [List.length_map, List.length_reverse, List.length_take_of_le hn] at hsum
  refine hsum.trans (congrArg List.sum (List.map_congr_left fun j hj => ?_))
  rw [Nat.zero_add, getD_reverse_take_toNat hn (List.mem_range.1 hj)]

/-! ### The masked number (R110) -/

theorem maskedNumber_eq (n : Nat) (digits : List Nibble) :
    maskedNumber n digits =
      (List.range 20).map fun i =>
        if i < 6 then digits.getD i 0#4
        else if i < n - 4 then 0xA#4 else if i < n then digits.getD i 0#4 else 0xF#4 := by
  refine List.map_congr_left fun i _ => ?_
  simp only [maskedNibble, Nat.lt_sub_iff_add_lt]

/-! ### The result (R107, R109, R111, R113) -/

theorem inspectBytes_of_readable {bytes : List Byte}
    (hr : readable (byteAt bytes 1).toNat (digitField bytes) = true) :
    inspectBytes bytes =
      { digitCount := byteAt bytes 1, kind := byteAt bytes 0, till := byteAt bytes 15
        unreadable := false
        checkDigitFail :=
          decide (checkSum ((digitField bytes).take (byteAt bytes 1).toNat) % 10 ≠ 0)
        masked := maskedNumber (byteAt bytes 1).toNat (digitField bytes) } :=
  if_pos hr

theorem inspectBytes_of_unreadable {bytes : List Byte}
    (hr : ¬ readable (byteAt bytes 1).toNat (digitField bytes) = true) :
    inspectBytes bytes =
      { digitCount := 0x00#8, kind := byteAt bytes 0, till := byteAt bytes 15
        unreadable := true, checkDigitFail := false, masked := blankMasked } :=
  if_neg hr

/-- Settles O36, by readability; a readable number's check sum and masked number are said place by
place. -/
theorem cardInspectionResult : Obligations.CardInspectionResult := by
  refine ⟨fun bytes hlen => ?_, fun plain => ⟨rfl, rfl⟩⟩
  have hfield := length_digitField hlen
  have hiff := readable_iff (n := (byteAt bytes 1).toNat) (digits := digitField bytes) (by omega)
  refine ⟨fun h => ?_, fun h => inspectBytes_of_unreadable (mt hiff.1 h)⟩
  have ⟨_, hn, _⟩ := h
  simp only [inspectBytes_of_readable (hiff.2 h), maskedNumber_eq, Nat.dvd_iff_mod_eq_zero,
    checkSum_take (hn.trans (by omega : 19 ≤ (digitField bytes).length)), doubledDigit, ne_eq,
    gt_iff_lt]

end Sys2Proof.Machine
end

section
/-! SUPPORT. Key positions (section 8): KEY ERASE and KEY SWITCH carried out. -/

namespace Sys2Proof.Machine

/-! ### The derivation unit beside the link (R141) -/

/-- R141: the arbiter neither reads nor writes the held answer, so it does not matter whether a
command is answered before or after the unit takes up its next operation. -/
theorem answer_takeUpNext (code : AnswerCode) (echo : Byte) (s : State) :
    answer code echo (takeUpNext s) = takeUpNext (answer code echo s) := by
  have hnext : nextRefill (answer code echo s) = nextRefill s := rfl
  unfold takeUpNext
  rw [answer_part, answer_derivation, hnext]
  by_cases hfree : s.part.state = .active ∧ s.derivation.inFlight = none
  · rw [if_pos hfree, if_pos hfree]
    cases s.derivation.pendingLoad with
    | some load => rfl
    | none => cases nextRefill s <;> rfl
  · rw [if_neg hfree, if_neg hfree]

/-! ### A position and its partner (R135) -/

theorem getElem_set_partner (positions : Vector KeyPosition 16) (p : Fin 16) (x : KeyPosition) :
    (positions.set p x)[partner p] = positions[partner p] :=
  Vector.getElem_set_ne _ _ fun h => (partner_facts p).1 (Fin.ext h.symm)

theorem promoted_set_of_ready {positions : Vector KeyPosition 16} {p : Fin 16} (x : KeyPosition)
    (hr : positions[partner p].state = .ready) :
    promoted p (positions.set p x) =
      (positions.set p x).set (partner p) { positions[partner p] with state := .active } := by
  rw [promoted, getElem_set_partner, if_pos hr]

/-- R135: whether rollover raises NO_KEY depends on the partner, which the change of the position
that leaves ACTIVE does not touch. -/
theorem rollover_setPool_setPosition (p : Fin 16) (x : KeyPosition) (s : State) :
    rollover p (setPool p [] (setPosition p x s)) =
      { s with
        pools := s.pools.set p []
        store.positions := promoted p (s.store.positions.set p x)
        part.notices := noticesAfterRollover s p } := by
  have hnotices : noticesAfterRollover (setPool p [] (setPosition p x s)) p =
      noticesAfterRollover s p := by
    simp only [noticesAfterRollover, setPool_store, setPosition_store, getElem_set_partner]
    rfl
  rw [rollover_eq, hnotices]
  rfl

/-- A window owns two positions (section 8). -/
theorem eq_or_eq_partner {p q : Fin 16} (h : ownerWindow q = ownerWindow p) :
    q = p ∨ q = partner p := by
  revert p q
  decide

/-- The window's other position is not ACTIVE, so the ACTIVE position found is the one named. -/
theorem activePosition_of_theActive {s : State} {w : Fin 8} {p : Fin 16}
    (h : TheActivePosition s w p) : activePosition s w = some p := by
  obtain ⟨rfl, hactive, hpartner⟩ := h
  obtain ⟨hownA, -, hpartnerA, -⟩ := ownerWindow_positions (ownerWindow p)
  obtain ⟨q, hq, hown, hqactive⟩ | ⟨-, hA, hB⟩ := activePosition_cases s (ownerWindow p)
  · obtain rfl | rfl := eq_or_eq_partner hown
    · exact hq
    · exact absurd hqactive hpartner
  · obtain heq | heq := eq_or_eq_partner hownA.symm
    · exact absurd hactive (heq ▸ hA)
    · exact absurd hactive (heq.trans hpartnerA ▸ hB)

/-! ### The tests of a command that names a position or a window (R178) -/

theorem onPosition_of_val {b : Byte} {p : Fin 16} (hp : p.val = b.toNat) (code : Byte)
    (carry : Fin 16 → State → State) (s : State) : onPosition b code carry s = carry p s := by
  rw [onPosition, dif_pos (hp ▸ p.isLt)]
  exact congrArg (carry · s) (Fin.ext hp.symm)

theorem onWindow_of_val {b : Byte} {w : Fin 8} (hw : w.val = b.toNat) (code : Byte)
    (carry : Fin 8 → State → State) (s : State) : onWindow b code carry s = carry w s := by
  rw [onWindow, dif_pos (hw ▸ w.isLt)]
  exact congrArg (carry · s) (Fin.ext hw.symm)

theorem unlessDisabled_of_enabled {s : State} {w : Fin 8} (he : Enabled s w) (code : Byte)
    (carry : State → State) : unlessDisabled w code carry s = carry s := by
  rw [unlessDisabled, (windowEnabled_iff s w).2 he, Bool.not_true, Bool.and_false,
    if_neg Bool.false_ne_true]

theorem inActiveOrFault_iff (x : PartState) :
    inActiveOrFault x = true ↔ x = .active ∨ x = .fault := by
  cases x <;> simp [inActiveOrFault]

/-! ### KEY ERASE (R137, R181) -/

theorem exec_keyErase_permitted {position : Byte} {p : Fin 16} {s : State} (hl : LinkFree s)
    (hp : p.val = position.toNat) (hs : s.part.state = .active ∨ s.part.state = .fault) :
    exec (.keyErase position) s =
      .next (answer .ok 0x11#8 (eraseKey p { s with link.frame := [] })) := by
  show execKeyErase position s = _
  rw [execKeyErase, frameEnds_free _ _ _ hl, onPosition_of_val hp, whenPermitted,
    if_pos ((inActiveOrFault_iff _).2 hs)]

/-- R137: an erased ACTIVE position makes rollover follow; any other changes alone. -/
theorem eraseKey_eq (p : Fin 16) (s : State) :
    eraseKey p s =
      takeUpNext
        { s with
          pools := s.pools.set p []
          store.positions :=
            if s.store.positions[p].state = .active then
              promoted p (s.store.positions.set p (takenEmpty s.store.positions[p]))
            else s.store.positions.set p (takenEmpty s.store.positions[p])
          part.notices :=
            if s.store.positions[p].state = .active then noticesAfterRollover s p
            else s.part.notices } := by
  simp only [eraseKey, rollover_setPool_setPosition]
  by_cases ha : s.store.positions[p].state = .active
  · simp only [if_pos ha]
    rfl
  · simp only [if_neg ha]
    rfl

/-! ### KEY SWITCH (R138, R181) -/

theorem exec_keySwitch_permitted {window : Byte} {w : Fin 8} {s : State} (hl : LinkFree s)
    (hw : w.val = window.toNat) (hs : s.part.state = .active) (he : Enabled s w) :
    exec (.keySwitch window) s = .next (trySwitch w { s with link.frame := [] }) := by
  show execKeySwitch window s = _
  rw [execKeySwitch, frameEnds_free _ _ _ hl, onWindow_of_val hw,
    unlessDisabled_of_enabled (s := { s with link.frame := [] }) he, whenPermitted, hs, inActive,
    if_pos rfl]

/-- R138: the switch needs a READY partner, so its rollover raises no NO_KEY. -/
theorem switchKey_of_ready {s : State} {p : Fin 16}
    (hr : s.store.positions[partner p].state = .ready) :
    switchKey p s =
      takeUpNext
        { s with
          pools := s.pools.set p []
          store.positions :=
            (s.store.positions.set p (turnedSpent s.store.positions[p])).set (partner p)
              { s.store.positions[partner p] with state := .active } } := by
  have hnotices : noticesAfterRollover s p = s.part.notices := if_neg fun h => h.1 hr
  rw [switchKey, rollover_setPool_setPosition, promoted_set_of_ready _ hr, hnotices]
  rfl

theorem trySwitch_of_ready {s : State} {w : Fin 8} {p : Fin 16} (ha : TheActivePosition s w p)
    (hr : s.store.positions[partner p].state = .ready) :
    trySwitch w s = answer .ok 0x12#8 (switchKey p s) := by
  simp only [trySwitch, activePosition_of_theActive ha, if_pos hr]

theorem trySwitch_noStandby {s : State} {w : Fin 8}
    (h : ∀ p : Fin 16, ownerWindow p = w →
      ¬ (s.store.positions[p].state = .active ∧ s.store.positions[partner p].state = .ready)) :
    trySwitch w s = answer .noStandby 0x12#8 s := by
  obtain ⟨p, hp, hown, hactive⟩ | ⟨hnone, -, -⟩ := activePosition_cases s w
  · have hr : s.store.positions[partner p].state ≠ .ready := fun hr => h p hown ⟨hactive, hr⟩
    simp only [trySwitch, hp, if_neg hr]
  · simp only [trySwitch, hnone]

/-- Settles O42: both commands pass their tests, what leaves ACTIVE is followed by rollover, and the
answer commutes with taking up the derivation unit's next operation. -/
theorem keyEraseAndKeySwitch : Obligations.KeyEraseAndKeySwitch := by
  refine ⟨fun position p s hl hp hs => ?_,
    fun window w s hl hw hs he => ⟨fun p ha hr => ?_, fun h => ?_⟩⟩
  · intro x erased
    rw [exec_keyErase_permitted hl hp hs, eraseKey_eq, answer_takeUpNext]
    rfl
  · rw [exec_keySwitch_permitted hl hw hs he,
      trySwitch_of_ready (s := { s with link.frame := [] }) ha hr,
      switchKey_of_ready (s := { s with link.frame := [] }) hr, answer_takeUpNext]
    rfl
  · rw [exec_keySwitch_permitted hl hw hs he,
      trySwitch_noStandby (s := { s with link.frame := [] }) h]
    rfl

end Sys2Proof.Machine
end

section
/-! SUPPORT. The management link (section 12): FREEZE, THAW, NOTICE ACK, ALERT CLEAR and TAMPER CLEAR
carried out. -/

namespace Sys2Proof.Machine

/-! ### The part state test of a frame that is carried out (R178, Table 12-3) -/

section
variable {permitted : PartState → Bool} {s : State}

theorem frameEnds_permitted (hl : LinkFree s) (h : permitted s.part.state = true) (code : Byte)
    (carry : State → State) :
    frameEnds code (whenPermitted permitted code carry) s = carry { s with link.frame := [] } :=
  (frameEnds_free _ _ _ hl).trans (if_pos h)

theorem frameEnds_notPermitted (hl : LinkFree s) (h : permitted s.part.state = false) (code : Byte)
    (carry : State → State) :
    frameEnds code (whenPermitted permitted code carry) s =
      { s with link := answered s .notActive code } :=
  (frameEnds_free _ _ _ hl).trans (if_neg (Bool.eq_false_iff.1 h))

end

theorem outsideStartUp_iff (x : PartState) :
    outsideStartUp x = true ↔ x = .active ∨ x = .passOnly ∨ x = .fault := by
  cases x <;> simp [outsideStartUp]

/-! ### FREEZE and THAW (R49, R182) -/

/-- A window command passes its three tests: the window exists, it is enabled, and the table holds its
records. -/
theorem frameEnds_onWindow_permitted {window : Byte} {w : Fin 8} {s : State} (hl : LinkFree s)
    (hw : w.val = window.toNat) (hr : HoldsRecords s) (he : Enabled s w) (code : Byte)
    (carry : Fin 8 → State → State) :
    frameEnds code
        (onWindow window code fun w =>
          unlessDisabled w code (whenPermitted PartState.holdsRecords code (carry w))) s =
      carry w { s with link.frame := [] } := by
  rw [frameEnds_free _ _ _ hl, onWindow_of_val hw,
    unlessDisabled_of_enabled (s := { s with link.frame := [] }) he]
  exact if_pos ((holdsRecords_iff s).2 hr)

section
variable {window : Byte} {w : Fin 8} {s : State}

theorem exec_freeze_permitted (hl : LinkFree s) (hw : w.val = window.toNat) (hr : HoldsRecords s)
    (he : Enabled s w) :
    exec (.freeze window) s =
      .next (answer .ok 0x20#8 (setManagement w true { s with link.frame := [] })) :=
  congrArg Host.Outcome.next (frameEnds_onWindow_permitted hl hw hr he _ _)

theorem exec_thaw_permitted (hl : LinkFree s) (hw : w.val = window.toNat) (hr : HoldsRecords s)
    (he : Enabled s w) :
    exec (.thaw window) s =
      .next (answer .ok 0x21#8 (setManagement w false { s with link.frame := [] })) :=
  congrArg Host.Outcome.next (frameEnds_onWindow_permitted hl hw hr he _ _)

end

/-! ### NOTICE ACK (R165, R182) -/

/-- R178: bit 7, the byte's top bit, names no defined cause. -/
theorem undefinedCause_iff (causes : Byte) : causes.getLsbD 7 = true ↔ 128 ≤ causes.toNat := by
  rw [← BitVec.msb_eq_getLsbD_last causes, BitVec.msb_eq_true_iff_two_mul_ge]
  omega

/-- R165: cause by cause, what stays is what was present and is not named. -/
theorem remainingNotices_eq (notices : BitVec 7) (causes : Byte) :
    notices &&& ~~~(causes.extractLsb' 0 7) =
      BitVec.ofBoolListLE
        ((List.range 7).map fun i => notices.getLsbD i && !causes.getLsbD i) := by
  refine BitVec.eq_of_getLsbD_eq fun i hi => ?_
  calc (notices &&& ~~~(causes.extractLsb' 0 7)).getLsbD i
      = ((List.range 7).map fun i => notices.getLsbD i && !causes.getLsbD i).getD i false := by
        simp [hi]
    _ = _ := BitVec.getLsbD_ofBoolListLE.symm

theorem exec_noticeAck {s : State} (hl : LinkFree s) (causes : Byte) :
    exec (.noticeAck causes) s = .next
      (if causes.getLsbD 7 then answer .badParam 0x30#8 { s with link.frame := [] }
        else answer .ok 0x30#8 (acknowledge causes { s with link.frame := [] })) :=
  congrArg Host.Outcome.next (frameEnds_free _ _ _ hl)

/-! ### ALERT CLEAR (R41, R182) -/

theorem exec_alertClear {s : State} (hl : LinkFree s) :
    exec .alertClear s = .next
      { s with link := answered s .ok 0x31#8, writePath.alertCauses := 0#3 } :=
  congrArg Host.Outcome.next (frameEnds_free _ _ _ hl)

/-! ### TAMPER CLEAR (R163, R178, R182) -/

theorem exec_tamperClear_permitted {s : State} (hl : LinkFree s)
    (hs : s.part.state = .active ∨ s.part.state = .passOnly ∨ s.part.state = .fault) :
    exec .tamperClear s = .next
      (if s.inputs.tamperLine then answer .lineActive 0x32#8 { s with link.frame := [] }
        else answer .ok 0x32#8 (clearTamper { s with link.frame := [] })) :=
  congrArg Host.Outcome.next (frameEnds_permitted hl ((outsideStartUp_iff _).2 hs) _ _)

theorem exec_tamperClear_notActive {s : State} (hl : LinkFree s)
    (hs : s.part.state = .loading ∨ s.part.state = .selfTest) :
    exec .tamperClear s = .next { s with link := answered s .notActive 0x32#8 } := by
  have hnot : outsideStartUp s.part.state = false := by
    obtain hs | hs := hs <;> rw [hs] <;> rfl
  exact congrArg Host.Outcome.next (frameEnds_notPermitted hl hnot _ _)

/-- Settles O50: each command passes its tests and its update is read off; the notice line is the test
that some cause is present. -/
theorem freezeAcknowledgeAndClear : Obligations.FreezeAcknowledgeAndClear := by
  refine fun s hl =>
    ⟨fun window w hw hr he => ⟨exec_freeze_permitted hl hw hr he, exec_thaw_permitted hl hw hr he⟩,
      fun causes hc => ?_, fun causes hc => ?_, exec_alertClear hl,
      fun hs => ⟨fun hline => ?_, fun hline => ?_⟩, exec_tamperClear_notActive hl, bne_iff_ne⟩
  · rw [exec_noticeAck hl, if_neg (mt (undefinedCause_iff causes).1 (Nat.not_le.2 hc)),
      acknowledge, remainingNotices_eq]
    rfl
  · rw [exec_noticeAck hl, if_pos ((undefinedCause_iff causes).2 hc)]
    rfl
  · rw [exec_tamperClear_permitted hl hs, if_pos hline]
    rfl
  · rw [exec_tamperClear_permitted hl hs, if_neg (Bool.eq_false_iff.1 hline)]
    rfl

end Sys2Proof.Machine
end

section
/-! SUPPORT. The configuration image (section 11): its fields, the WINDOW and OVERLAP checks, and the
order of the checks of a read image. -/

namespace Sys2Proof.Machine

/-! ### Fields of the image (R168, R183) -/

/-- A two-byte field that lies inside the record, byte by byte. -/
theorem fieldBE_two {bytes : List Byte} {offset : Nat} (h : offset + 1 < bytes.length) :
    fieldBE bytes offset 2 =
      (byteAt bytes offset).toNat * 256 + (byteAt bytes (offset + 1)).toNat := by
  have hfield : (bytes.drop offset).take 2 = [bytes[offset], bytes[offset + 1]] := by
    rw [List.drop_eq_getElem_cons (by omega), List.drop_eq_getElem_cons h]
    rfl
  have h0 : offset < bytes.length := by omega
  simp [fieldBE, numberBE, byteAt, hfield, h, h0]

/-- The REVISION check's nibble, read off the byte's value. -/
theorem highNibble_eq_two_iff (b : Byte) : b.extractLsb' 4 4 = 0x2#4 ↔ b.toNat / 16 = 2 := by
  have hb := b.isLt
  rw [← BitVec.toNat_inj, BitVec.extractLsb'_toNat, Nat.shiftRight_eq_div_pow]
  simp only [BitVec.toNat_ofNat]
  omega

/-! ### The tests of a record and of a pair of records (R170) -/

theorem wellFormed_iff_recordHolds (r : WindowRecord) : r.wellFormed = true ↔ RecordHolds r := by
  simp [WindowRecord.wellFormed, WindowRecord.lastLine, Nat.dvd_iff_mod_eq_zero, and_assoc, or_assoc]

theorem overlaps_iff_sharesLine (r q : WindowRecord) :
    (r.enabled && q.enabled && r.overlaps q) = true ↔ SharesLine r q := by
  simp only [WindowRecord.overlaps, Bool.and_eq_true, decide_eq_true_eq, and_assoc]
  rfl

theorem covers_iff (r : WindowRecord) (line : Nat) :
    r.covers line = true ↔ r.base.toNat ≤ line ∧ line ≤ r.lastLine := by
  simp [WindowRecord.covers]

/-- Each window begins at or before the line that both cover, and ends at or after it. -/
theorem sharesLine_of_covers {r q : WindowRecord} {line : Nat} (hr : r.enabled = true)
    (hq : q.enabled = true) (hrl : r.covers line = true) (hql : q.covers line = true) :
    SharesLine r q := by
  obtain ⟨hr1, hr2⟩ := (covers_iff r line).1 hrl
  obtain ⟨hq1, hq2⟩ := (covers_iff q line).1 hql
  exact ⟨hr, hq, hr1.trans hq2, hq1.trans hr2⟩

/-! ### The first that fails, in ascending order (R170) -/

/-- In a list in the order `r`, the search stops at the element that passes with none before it. -/
theorem find?_eq_some_of_pairwise {α : Type} {r : α → α → Prop} {l : List α} {p : α → Bool} {x : α}
    (hl : l.Pairwise r) (hx : x ∈ l) (hp : p x = true) (hfirst : ∀ y ∈ l, r y x → ¬ p y = true) :
    l.find? p = some x := by
  obtain ⟨before, after, rfl⟩ := List.append_of_mem hx
  obtain ⟨-, -, hordered⟩ := List.pairwise_append.1 hl
  refine List.find?_eq_some_iff_append.2 ⟨hp, before, after, rfl, fun y hy => ?_⟩
  have hyx : r y x := hordered y hy x List.mem_cons_self
  simpa using hfirst y (List.mem_append_left _ hy) hyx

/-- The order in which the OVERLAP check takes the pairs. -/
def PairBefore (x y : Fin 8 × Fin 8) : Prop := x.1 < y.1 ∨ x.1 = y.1 ∧ x.2 < y.2

theorem mem_windowPairs (i j : Fin 8) : (i, j) ∈ windowPairs ↔ i < j := by
  simp [windowPairs]

theorem windowPairs_pairwise : windowPairs.Pairwise PairBefore := by
  unfold PairBefore
  decide

section
variable {image : List Byte}

/-- The record of a window is read by the WINDOW check and fails it (R170). -/
abbrev BadWindow (image : List Byte) (w : Fin 8) : Prop :=
  (imageRecord image w).enabled = true ∧ ¬ RecordHolds (imageRecord image w)

theorem badWindow_iff (w : Fin 8) :
    ((imageRecord image w).enabled && !(imageRecord image w).wellFormed) = true ↔
      BadWindow image w := by
  rw [Bool.and_eq_true, Bool.not_eq_true', ← Bool.not_eq_true, wellFormed_iff_recordHolds]

theorem firstBadWindow_eq_some {w : Fin 8} (hw : BadWindow image w)
    (hfirst : ∀ v, v < w → ¬ BadWindow image v) : firstBadWindow image = some w :=
  find?_eq_some_of_pairwise (List.pairwise_lt_finRange 8) (List.mem_finRange w)
    ((badWindow_iff w).2 hw) fun v _ hv => mt (badWindow_iff v).1 (hfirst v hv)

theorem firstBadWindow_eq_none (h : ∀ w, ¬ BadWindow image w) : firstBadWindow image = none :=
  List.find?_eq_none.2 fun w _ => mt (badWindow_iff w).1 (h w)

theorem firstOverlap_eq_some {i j : Fin 8} (hij : i < j)
    (h : SharesLine (imageRecord image i) (imageRecord image j))
    (hfirst : ∀ a b, a < b → (a < i ∨ a = i ∧ b < j) →
      ¬ SharesLine (imageRecord image a) (imageRecord image b)) :
    firstOverlap image = some (i, j) :=
  find?_eq_some_of_pairwise windowPairs_pairwise ((mem_windowPairs i j).2 hij)
    ((overlaps_iff_sharesLine _ _).2 h) fun (a, b) hab hbefore =>
      mt (overlaps_iff_sharesLine _ _).1 (hfirst a b ((mem_windowPairs a b).1 hab) hbefore)

theorem firstOverlap_eq_none_iff :
    firstOverlap image = none ↔
      ∀ i j, i < j → ¬ SharesLine (imageRecord image i) (imageRecord image j) := by
  simp only [firstOverlap, List.find?_eq_none, Prod.forall, mem_windowPairs,
    overlaps_iff_sharesLine]

/-! ### The outcome of the checks (Table 11-1) -/

/-- The outcome of an image that passes the four checks of its header and its code. -/
def windowsOutcome (image : List Byte) : ImageOutcome :=
  match firstBadWindow image with
  | some w => .window w
  | none =>
    match firstOverlap image with
    | some (i, j) => .overlap i j
    | none => .valid

theorem windowsOutcome_of_badWindow {w : Fin 8} (hw : BadWindow image w)
    (hfirst : ∀ v, v < w → ¬ BadWindow image v) : windowsOutcome image = .window w := by
  simp only [windowsOutcome, firstBadWindow_eq_some hw hfirst]

theorem windowsOutcome_of_overlap {i j : Fin 8} (hgood : ∀ w, ¬ BadWindow image w) (hij : i < j)
    (h : SharesLine (imageRecord image i) (imageRecord image j))
    (hfirst : ∀ a b, a < b → (a < i ∨ a = i ∧ b < j) →
      ¬ SharesLine (imageRecord image a) (imageRecord image b)) :
    windowsOutcome image = .overlap i j := by
  simp only [windowsOutcome, firstBadWindow_eq_none hgood, firstOverlap_eq_some hij h hfirst]

theorem windowsOutcome_of_disjoint (hgood : ∀ w, ¬ BadWindow image w)
    (h : ∀ i j, i < j → ¬ SharesLine (imageRecord image i) (imageRecord image j)) :
    windowsOutcome image = .valid := by
  simp only [windowsOutcome, firstBadWindow_eq_none hgood, firstOverlap_eq_none_iff.2 h]

theorem not_sharesLine_of_windowsOutcome_valid (h : windowsOutcome image = .valid) :
    ∀ i j, i < j → ¬ SharesLine (imageRecord image i) (imageRecord image j) := by
  refine firstOverlap_eq_none_iff.1 ?_
  unfold windowsOutcome at h
  split at h
  case h_1 => exact nomatch h
  case h_2 =>
    split at h
    case h_1 => exact nomatch h
    case h_2 hnone => exact hnone

/-- The checks of Table 11-1 in their order, each in the terms of the manual. -/
theorem checkImage_eq (hlen : image.length = 138) :
    checkImage image =
      if ¬ (byteAt image 0 = 0x49#8 ∧ byteAt image 1 = 0x57#8) then .signature
      else if ¬ byteAt image 2 = 0x01#8 then .version
      else if ¬ (crc 0x1021#16 0xFFFF#16 (image.take 136)).toNat =
          (byteAt image 136).toNat * 256 + (byteAt image 137).toNat then .check
      else if ¬ (byteAt image 3).toNat / 16 = 2 then .revision
      else windowsOutcome image := by
  have hcode : 136 + 1 < image.length := by omega
  simp only [checkImage, imageCode, fieldBE_two hcode, ne_eq, highNibble_eq_two_iff, not_and_or]
  rfl

theorem windowsOutcome_of_checkImage_valid (hlen : image.length = 138)
    (h : checkImage image = .valid) : windowsOutcome image = .valid := by
  rw [checkImage_eq hlen] at h
  split_ifs at h
  exact h

end

/-- Settles O46: the outcome is that of the first check that fails; the WINDOW and the OVERLAP check
stop at their first bad record and pair. -/
theorem imageChecksInOrder : Obligations.ImageChecksInOrder := by
  intro image hlen
  refine ⟨fun hsig => ?_, fun hsig hver => ?_, fun hsig hver hcode => ?_,
    fun hsig hver hcode hrev => ?_, fun hsig hver hcode hrev => ?_,
    fun hvalid v w line hvw hv hw hvl => ?_⟩
  · rw [checkImage_eq hlen, if_pos hsig]
  · rw [checkImage_eq hlen, if_neg (not_not.2 hsig), if_pos hver]
  · rw [checkImage_eq hlen, if_neg (not_not.2 hsig), if_neg (not_not.2 hver), if_pos hcode]
  · rw [checkImage_eq hlen, if_neg (not_not.2 hsig), if_neg (not_not.2 hver),
      if_neg (not_not.2 hcode), if_pos hrev]
  · rw [checkImage_eq hlen, if_neg (not_not.2 hsig), if_neg (not_not.2 hver),
      if_neg (not_not.2 hcode), if_neg (not_not.2 hrev)]
    exact ⟨fun w => windowsOutcome_of_badWindow, fun hgood =>
      ⟨fun i j => windowsOutcome_of_overlap hgood, windowsOutcome_of_disjoint hgood⟩⟩
  · have hdisjoint := not_sharesLine_of_windowsOutcome_valid
      (windowsOutcome_of_checkImage_valid hlen hvalid)
    refine Bool.eq_false_iff.2 fun hwl => ?_
    obtain hlt | hlt := lt_or_gt_of_ne hvw
    · exact hdisjoint v w hlt (sharesLine_of_covers hv hw hvl hwl)
    · exact hdisjoint w v hlt (sharesLine_of_covers hw hv hwl hvl)

end Sys2Proof.Machine
end

section
/-! SUPPORT. Key positions (section 8): the checks of KEY LOAD, in order, and its acceptance. -/

namespace Sys2Proof.Machine

/-! ### The tests of a command that names a position (R178, checks 1 and 2 of R180) -/

theorem onPosition_of_le {b : Byte} (hb : 16 ≤ b.toNat) (code : Byte)
    (carry : Fin 16 → State → State) (s : State) :
    onPosition b code carry s = answer .badParam code s :=
  dif_neg (Nat.not_lt.2 hb)

/-- R178: the test is of a disabled window, and is made only where the records stand. -/
theorem unlessDisabled_eq (w : Fin 8) (code : Byte) (carry : State → State) (s : State) :
    unlessDisabled w code carry s =
      if HoldsRecords s ∧ ¬ Enabled s w then answer .badParam code s else carry s := by
  have htest : (s.part.state.holdsRecords && !windowEnabled s w) = true ↔
      HoldsRecords s ∧ ¬ Enabled s w := by
    rw [Bool.and_eq_true, Bool.not_eq_true', ← Bool.not_eq_true, windowEnabled_iff,
      holdsRecords_iff]
  rw [unlessDisabled]
  exact if_congr htest rfl rfl

theorem inActive_iff (x : PartState) : inActive x = true ↔ x = .active := by
  cases x <;> simp [inActive]

/-! ### The tests of the key block (checks 6 and 7 of R180) -/

theorem heldElsewhere_iff (s : State) (p : Fin 16) (keyId : KeyId) :
    heldElsewhere s p keyId = true ↔
      ∃ q : Fin 16, q ≠ p ∧ s.store.positions[q].state ≠ .empty ∧
        s.store.positions[q].keyId = keyId := by
  simp [heldElsewhere, and_assoc]

theorem rangeHolds_iff (b : KeyBlock) :
    rangeHolds b = true ↔ b.start.toNat ≤ b.limit.toNat ∧ b.limit.toNat ≤ 1048575 := by
  rw [rangeHolds, Bool.and_eq_true, decide_eq_true_iff, decide_eq_true_iff]

/-- Checks 3 to 7 in their order, each in the terms of the manual (R180). -/
theorem checkLoad_eq (p : Fin 16) (b : KeyBlock) (s : State) :
    checkLoad p b s =
      if s.store.latch = true then answer .tampered 0x10#8 s
      else if s.store.positions[p].state = .active then answer .positionActive 0x10#8 s
      else if b.keyId = 0#64 then answer .badParam 0x10#8 s
      else if ∃ q : Fin 16, q ≠ p ∧ s.store.positions[q].state ≠ .empty ∧
          s.store.positions[q].keyId = b.keyId then answer .duplicateId 0x10#8 s
      else if ¬ (b.start.toNat ≤ b.limit.toNat ∧ b.limit.toNat ≤ 1048575) then
        answer .badRange 0x10#8 s
      else acceptLoad p b s := by
  simp only [checkLoad, heldElsewhere_iff, Bool.not_eq_true', ← Bool.not_eq_true, rangeHolds_iff]

/-! ### KEY LOAD (R180) -/

section
variable {position : Byte} {b : KeyBlock} {p : Fin 16} {s : State}

theorem exec_keyLoad_badPosition (hl : LinkFree s) (hp : 16 ≤ position.toNat) :
    exec (.keyLoad position b) s = .next { s with link := answered s .badParam 0x10#8 } := by
  show execKeyLoad position b s = _
  rw [execKeyLoad, frameEnds_free _ _ _ hl, onPosition_of_le hp]
  rfl

theorem exec_keyLoad_onPosition (hl : LinkFree s) (hp : p.val = position.toNat) :
    exec (.keyLoad position b) s = .next
      (if HoldsRecords s ∧ ¬ Enabled s (ownerWindow p) then
        { s with link := answered s .badParam 0x10#8 }
      else if s.part.state = .active then checkLoad p b { s with link.frame := [] }
      else { s with link := answered s .notActive 0x10#8 }) := by
  show execKeyLoad position b s = _
  rw [execKeyLoad, frameEnds_free _ _ _ hl, onPosition_of_val hp, unlessDisabled_eq]
  simp only [whenPermitted, inActive_iff]
  rfl

theorem exec_keyLoad_checked (hl : LinkFree s) (hp : p.val = position.toNat)
    (he : Enabled s (ownerWindow p)) (hs : s.part.state = .active) :
    exec (.keyLoad position b) s = .next (checkLoad p b { s with link.frame := [] }) := by
  rw [exec_keyLoad_onPosition hl hp, if_neg fun ⟨_, hd⟩ => hd he, if_pos hs]

end

/-- Settles O41: the answer is that of the first check that fails; past the tests of position, window
and part state the checks are those of `checkLoad_eq`. -/
theorem keyLoadChecksInOrder : Obligations.KeyLoadChecksInOrder := by
  refine fun position b s hl => ⟨exec_keyLoad_badPosition hl, fun p hp =>
    ⟨fun hr hd => ?disabled, fun hd hs => ?notActive, fun he hs => ?checked⟩⟩
  case disabled => rw [exec_keyLoad_onPosition hl hp, if_pos ⟨hr, hd⟩]
  case notActive =>
    rw [exec_keyLoad_onPosition hl hp, if_neg fun ⟨hr, hne⟩ => hne (hd hr), if_neg hs]
  case checked =>
    rw [exec_keyLoad_checked hl hp he hs, checkLoad_eq]
    refine ⟨fun hlatch => congrArg _ (if_pos hlatch), fun hlatch => ?_⟩
    rw [if_neg (Bool.eq_false_iff.1 hlatch)]
    refine ⟨fun hactive => congrArg _ (if_pos hactive), fun hactive => ?_⟩
    rw [if_neg hactive]
    refine ⟨fun hid => congrArg _ (if_pos hid), fun hid => ?_⟩
    rw [if_neg hid]
    refine ⟨fun hdup => congrArg _ (if_pos hdup), fun hdup => ?_⟩
    rw [if_neg fun ⟨q, hq, hne, heq⟩ => hdup q hq hne heq]
    exact ⟨fun hrange => congrArg _ (if_pos hrange),
      fun hstart hlimit => congrArg _ (if_neg (not_not.2 ⟨hstart, hlimit⟩))⟩

end Sys2Proof.Machine
end

section
/-! SUPPORT. The management link (section 12): what the status commands report, and what a read
transaction returns. -/

namespace Sys2Proof.Machine

/-! ### STATUS (R179, Table 13-9) -/

theorem statusData_eq (s : State) :
    statusData s =
      [0x21#8, s.part.state.code, s.loader.outcome.code] ++ s.loader.outcome.windowField ++
        [s.part.storeOutcome.code, (if s.store.latch then 0x01#8 else 0x00#8),
         s.tracker.state.code, s.part.notices.setWidth 8, s.writePath.alertCauses.setWidth 8] ++
        bytesBE 2 s.tracker.rowReopen.toNat ++ bytesBE 2 s.tracker.closedBankAccess.toNat ++
        bytesBE 2 s.tracker.refreshWithOpen.toNat ++ bytesBE 2 s.writePath.parityFails.toNat ++
        bytesBE 2 s.writePath.checkFails.toNat ++ bytesBE 4 s.time.ticks.toNat := by
  rw [statusData, BitVec.ofNat_toNat, BitVec.ofNat_toNat, flagByte]

/-- R179: the frame's end is no part of what is reported. -/
theorem exec_status {s : State} (hl : LinkFree s) :
    exec .status s = .next { s with link := answeredData s 0x01#8 (statusData s) } :=
  congrArg Host.Outcome.next (frameEnds_free _ _ _ hl)

/-! ### WINDOW STATUS (R54, R179, Table 13-10) -/

theorem openContexts_eq_countP (s : State) (w : Fin 8) :
    openContexts s w = s.contexts.countP fun c => c.window == w :=
  List.countP_eq_length_filter.symm

theorem windowEnabled_of_record {s : State} {w : Fin 8} {r : WindowRecord}
    (hrec : s.windows[w].record = some r) : windowEnabled s w = r.enabled := by
  simp only [windowEnabled, hrec]

section
variable {s : State} {w : Fin 8} {r : WindowRecord}

theorem windowData_of_enabled (hrec : s.windows[w].record = some r) (he : r.enabled = true) :
    windowData s w =
      BitVec.ofNat 8 w.val :: summaryBytes r ++
        [s.windows[w].freeze.byte, BitVec.ofNat 8 (s.contexts.countP fun c => c.window == w)] ++
        outcomeBytes s.windows[w].outcomes ++ bytesBE 4 s.windows[w].blanked.toNat ++
        [blankCode s.windows[w].lastBlank] ++ bytesBE 4 s.store.wrapSeq[w].toNat := by
  have hw : windowEnabled s w = true := (windowEnabled_of_record hrec).trans he
  simp only [windowData, reportedWindow, if_pos hw, hrec, openContexts_eq_countP,
    Option.getD_some]

/-- R54: the bytes of Table 13-10 between the configuration and the wrap sequence. -/
theorem blankReport_eq_zeros :
    [Window.blank.freeze.byte, 0x00#8] ++ outcomeBytes Window.blank.outcomes ++
        bytesBE 4 Window.blank.blanked.toNat ++ [blankCode Window.blank.lastBlank] =
      List.replicate 31 0x00#8 := by
  decide

theorem windowData_of_disabled (hrec : s.windows[w].record = some r) (he : r.enabled = false) :
    windowData s w =
      BitVec.ofNat 8 w.val :: summaryBytes r ++ List.replicate 31 0x00#8 ++
        bytesBE 4 s.store.wrapSeq[w].toNat := by
  have hw : ¬ windowEnabled s w = true :=
    Bool.eq_false_iff.1 ((windowEnabled_of_record hrec).trans he)
  simp only [windowData, reportedWindow, if_neg hw, hrec, Option.getD_some,
    ← blankReport_eq_zeros, List.append_assoc]

theorem exec_windowStatus_permitted {window : Byte} (hl : LinkFree s) (hw : w.val = window.toNat)
    (hr : HoldsRecords s) :
    exec (.windowStatus window) s =
      .next { s with link := answeredData s 0x02#8 (windowData s w) } := by
  show execWindowStatus window s = _
  rw [execWindowStatus, frameEnds_free _ _ _ hl, onWindow_of_val hw, whenPermitted,
    if_pos ((holdsRecords_iff s).2 hr)]
  rfl

end

/-! ### KEY STATUS (R150, R179, Table 13-11) -/

theorem exec_keyStatus_permitted {s : State} {position : Byte} {p : Fin 16} (hl : LinkFree s)
    (hp : p.val = position.toNat) (hr : HoldsRecords s) :
    exec (.keyStatus position) s =
      .next { s with link := answeredData s 0x03#8 (keyData s p) } := by
  show execKeyStatus position s = _
  rw [execKeyStatus, frameEnds_free _ _ _ hl, onPosition_of_val hp, whenPermitted,
    if_pos ((holdsRecords_iff s).2 hr)]
  rfl

/-! ### Read transactions (R174) -/

/-- R174: the held answer does not matter to whether a read is acknowledged. -/
theorem readTransaction_free {s : State} (hl : LinkFree s) (n : Nat) :
    readTransaction s linkAddress n =
      some
        (([s.link.answer.code.code, s.link.answer.echo,
            BitVec.ofNat 8 s.link.answer.data.length] ++
            s.link.answer.data ++ List.replicate n 0xFF#8).take n) := by
  obtain ⟨hreset, hclock, -⟩ := hl
  rw [readTransaction, (linkAnswers_iff s).2 ⟨hreset, hclock⟩, beq_self_eq_true]
  rfl

/-- Settles O51: the codes are read off their tables; each status command holds the bytes of its
report, and those of a disabled window are the report of a blank one. -/
theorem statusCommandsReport : Obligations.StatusCommandsReport := by
  refine ⟨by decide, rfl, by decide, fun v w => ⟨rfl, rfl, rfl, rfl⟩, rfl, ⟨rfl, rfl⟩, rfl, rfl,
    fun s hl => ⟨?status, fun hr => ⟨fun window w r hw hrec => ?window, fun position p hp =>
      exec_keyStatus_permitted hl hp hr⟩, readTransaction_free hl⟩⟩
  case status => rw [exec_status hl, statusData_eq]
  case window =>
    have hnumber : BitVec.ofNat 8 w.val = window := by
      rw [hw, BitVec.ofNat_toNat, BitVec.setWidth_eq]
    intro summary x
    rw [exec_windowStatus_permitted hl hw hr]
    constructor
    · intro he
      rw [windowData_of_enabled hrec he, hnumber]
      simp only [outcomeBytes, ← List.append_assoc]
      rfl
    · intro he
      rw [windowData_of_disabled hrec he, hnumber]
      rfl

end Sys2Proof.Machine
end

section
/-! SUPPORT. The command tracker (section 1): what each command of the channel takes, and what happens
to a command that is not taken or fails its parity check. -/

namespace Sys2Proof.Machine

/-! ### The meanings of the channel commands, by command (Table 1-1) -/

/-- What the tracker takes from a command of the channel (Table 1-1). -/
def takenOf : Instr → State → State
  | .rowOpen g b row _ => openRow (bankIndex g b) row
  | .bankClose g b _ => closeBank (bankIndex g b)
  | .closeAll _ => closeAllBanks
  | .write g b col ac ch _ => fun s =>
    closeWhen ac (bankIndex g b)
      (handWrite (burstPlace s (bankIndex g b) col) col ch (countClosedAccess (bankIndex g b) s))
  | .read g b col ac ch _ => fun s =>
    closeWhen ac (bankIndex g b)
      (handRead (burstPlace s (bankIndex g b) col) col ch (countClosedAccess (bankIndex g b) s))
  | .refresh _ => refreshBanks
  | .selfRefreshEntry _ => refreshBanks
  | .modeSet g b address _ => fun s =>
    { s with tracker.mode := modeAfter s.tracker.mode (modeWord g b) address }
  | _ => id

/-- What is done with a command of the channel that is not taken (R17, R20). -/
def untakenOf : Instr → State → State
  | .write _ _ col _ ch _ => handWrite (.absent .untracked) col ch
  | .read _ _ col _ ch _ => handRead (.absent .untracked) col ch
  | _ => id

theorem exec_channel {c : Instr} {ok : Bool} (h : channelParity c = some ok) (s : State) :
    exec c s = .next (channelCommand c ok (takenOf c) (untakenOf c) s) := by
  cases c <;> cases h <;> rfl

theorem exec_channel_taken {c : Instr} {ok : Bool} (h : channelParity c = some ok) {s : State}
    (ht : TrackerTakes s) (hp : PassesParity s ok) :
    exec c s = .next (takenOf c { s with ports.dramCommand := some c }) := by
  rw [exec_channel h, channelCommand_taken _ _ _ _ _ ht hp]

theorem exec_channel_untaken {c : Instr} {ok : Bool} (h : channelParity c = some ok) {s : State}
    (ht : ¬ TrackerTakes s) :
    exec c s = .next (untakenOf c { s with ports.dramCommand := some c }) := by
  rw [exec_channel h, channelCommand_untaken _ _ _ _ _ ht]

theorem exec_channel_failed {c : Instr} (h : channelParity c = some false) {s : State}
    (ht : TrackerTakes s) (hp : s.tracker.mode.commandParity = true) :
    exec c s = .next (untakenOf c (parityFailure { s with ports.dramCommand := some c })) := by
  rw [exec_channel h, channelCommand_failed _ _ _ _ ht hp]

/-! ### ROW OPEN and REFRESH taken (R4, R7) -/

/-- Settles O5: ROW OPEN is taken, and what is taken writes one entry and one count. -/
theorem rowOpenTaken : Obligations.RowOpenTaken := by
  intro g b row ok s ht hp
  refine ⟨rfl, ?_⟩
  rw [exec_channel_taken rfl ht hp, ← satInc_eq_saturated]
  rfl

theorem anyBankOpen_iff (s : State) :
    anyBankOpen s = true ↔ ∃ i : Fin 16, s.tracker.banks[i] ≠ .closed := by
  simp [anyBankOpen]

/-- Settles O7: REFRESH and SELF-REFRESH ENTRY take the same; whether a bank is open decides the
count. -/
theorem refreshClosesEveryBank : Obligations.RefreshClosesEveryBank := by
  intro ok s ht hp
  refine ⟨if anyBankOpen s then satInc s.tracker.refreshWithOpen else s.tracker.refreshWithOpen,
    fun hclosed => ?_, fun hopen => ?_, exec_channel_taken rfl ht hp, exec_channel_taken rfl ht hp⟩
  · exact if_neg fun h => (anyBankOpen_iff s).1 h |>.elim fun i hi => hi (hclosed i)
  · rw [if_pos ((anyBankOpen_iff s).2 hopen), satInc_eq_saturated]

/-! ### Commands from which nothing is taken (Table 1-1) -/

/-- Settles O8: nothing is done with such a command whether or not it is taken. -/
theorem commandsThatTakeNothing : Obligations.CommandsThatTakeNothing := by
  intro c ok s hc hparity
  by_cases ht : TrackerTakes s
  · obtain rfl | rfl | rfl | rfl | rfl | rfl := hc <;>
      exact exec_channel_taken rfl ht (hparity ht)
  · obtain rfl | rfl | rfl | rfl | rfl | rfl := hc <;> exact exec_channel_untaken rfl ht

/-! ### MODE SET taken (R9, Table 1-2) -/

theorem getLsbD_eq_decide_toNat {w : Nat} (a : BitVec w) (i : Nat) :
    a.getLsbD i = decide (a.toNat / 2 ^ i % 2 = 1) := by
  rw [← BitVec.testBit_toNat, Nat.testBit_eq_decide_div_mod_eq]

theorem burstModeOf_eq (a : BitVec 18) :
    burstModeOf a =
      if a.toNat % 4 = 1 then .onTheFly else if a.toNat % 4 = 2 then .fixedChop else .fixed8 := by
  rw [burstModeOf, getLsbD_eq_decide_toNat a 1, getLsbD_eq_decide_toNat a 0]
  have hmod : a.toNat % 4 = 2 * (a.toNat / 2 ^ 1 % 2) + a.toNat / 2 ^ 0 % 2 := by omega
  have h1 := Nat.mod_two_eq_zero_or_one (a.toNat / 2 ^ 1)
  have h0 := Nat.mod_two_eq_zero_or_one (a.toNat / 2 ^ 0)
  rw [hmod]
  obtain h1 | h1 := h1 <;> obtain h0 | h0 := h0 <;> rw [h1, h0] <;> rfl

/-- Parity is off exactly when the three low address lines are 0. -/
theorem parityLines_eq (a : BitVec 18) :
    (a.getLsbD 2 || a.getLsbD 1 || a.getLsbD 0) = decide (a.toNat % 8 ≠ 0) := by
  rw [Bool.eq_iff_iff]
  simp only [getLsbD_eq_decide_toNat, Bool.or_eq_true, decide_eq_true_eq]
  omega

theorem modeAfter_eq (mode : ModeRecord) (n : Nat) (a : BitVec 18) :
    modeAfter mode n a =
      if n = 0 then
        { mode with
          burstMode :=
            if a.toNat % 4 = 1 then .onTheFly
            else if a.toNat % 4 = 2 then .fixedChop else .fixed8
          burstOrder := if a.toNat / 8 % 2 = 1 then .interleaved else .sequential }
      else if n = 2 then { mode with writeCheck := decide (a.toNat / 4096 % 2 = 1) }
      else if n = 5 then
        { mode with
          commandParity := decide (a.toNat % 8 ≠ 0)
          dataMask := decide (a.toNat / 1024 % 2 = 1)
          writeInversion := decide (a.toNat / 2048 % 2 = 1)
          readInversion := decide (a.toNat / 4096 % 2 = 1) }
      else mode := by
  unfold modeAfter
  split
  · simp only [if_true, burstModeOf_eq, getLsbD_eq_decide_toNat a 3, decide_eq_true_eq]
    rfl
  · simp only [getLsbD_eq_decide_toNat a 12]
    rfl
  · simp only [parityLines_eq, getLsbD_eq_decide_toNat a 10, getLsbD_eq_decide_toNat a 11,
      getLsbD_eq_decide_toNat a 12]
    rfl
  · next h0 h2 h5 => rw [if_neg h0, if_neg h2, if_neg h5]

/-- Settles O9: MODE SET is taken, and the fields of its mode word are read off the address lines. -/
theorem modeSetTaken : Obligations.ModeSetTaken := by
  intro g b a ok s ht hp
  rw [exec_channel_taken rfl ht hp, ← modeAfter_eq]
  rfl

/-! ### WRITE and READ taken (R2, R6, R10) -/

/-- R6: the count and the auto-close reach the tracker alone. -/
theorem takenOf_write (g b : BitVec 2) (col : BitVec 10) (ac ch ok : Bool) (s : State) :
    takenOf (.write g b col ac ch ok) s =
      { s with
        writePath.awaiting :=
          s.writePath.awaiting ++
            [describe s.tracker.mode (burstPlace s (bankIndex g b) col)
              (burstExtent s.tracker.mode.burstMode col ch)]
        tracker :=
          { s.tracker with
            banks := if ac then s.tracker.banks.set (bankIndex g b) .closed else s.tracker.banks
            closedBankAccess :=
              if s.tracker.banks[bankIndex g b] = .closed then saturated s.tracker.closedBankAccess
              else s.tracker.closedBankAccess } } := by
  simp only [takenOf, countClosedAccess, satInc_eq_saturated]
  by_cases hc : s.tracker.banks[bankIndex g b] = .closed
  · simp only [if_pos hc]
    cases ac <;> rfl
  · simp only [if_neg hc]
    cases ac <;> rfl

/-- R101: the trailer that answers a READ is composed with the bank's count already raised, which it
does not read. -/
theorem takenOf_read (g b : BitVec 2) (col : BitVec 10) (ac ch ok : Bool) (s : State) :
    takenOf (.read g b col ac ch ok) s =
      { s with
        reads :=
          s.reads ++
            [{ burst :=
                 describe s.tracker.mode (burstPlace s (bankIndex g b) col)
                   (burstExtent s.tracker.mode.burstMode col ch)
               startBeat := col.extractLsb' 0 3
               order := s.tracker.mode.burstOrder
               answer := synthesizedFor s (burstPlace s (bankIndex g b) col) }]
        tracker :=
          { s.tracker with
            banks := if ac then s.tracker.banks.set (bankIndex g b) .closed else s.tracker.banks
            closedBankAccess :=
              if s.tracker.banks[bankIndex g b] = .closed then saturated s.tracker.closedBankAccess
              else s.tracker.closedBankAccess } } := by
  simp only [takenOf, countClosedAccess, satInc_eq_saturated]
  by_cases hc : s.tracker.banks[bankIndex g b] = .closed
  · simp only [if_pos hc]
    cases ac <;> rfl
  · simp only [if_neg hc]
    cases ac <;> rfl

/-- Settles O10: WRITE is taken, and its description is that of the bank's entry. -/
theorem writeTaken : Obligations.WriteTaken := by
  intro g b col ac ch ok s ht hp
  rw [exec_channel_taken rfl ht hp, takenOf_write]
  rfl

theorem startBeat_eq (col : BitVec 10) : col.extractLsb' 0 3 = BitVec.ofNat 3 (col.toNat % 8) := by
  refine BitVec.eq_of_toNat_eq ?_
  simp [BitVec.extractLsb'_toNat]

/-- Settles O11: READ is taken, and the bank's entry decides its place. -/
theorem readTaken : Obligations.ReadTaken := by
  intro g b col ac ch ok s ht hp
  refine ⟨burstPlace s (bankIndex g b) col, fun row hrow => ?_, fun hclosed => ?_, ?_⟩
  · rw [burstPlace, hrow]
  · rw [burstPlace, hclosed]
  · rw [exec_channel_taken rfl ht hp, takenOf_read, startBeat_eq]
    rfl

/-! ### Commands not taken (R17, R20, R21) -/

theorem untakenOf_other {c : Instr} (hw : ∀ g b col ac ch ok, c ≠ .write g b col ac ch ok)
    (hr : ∀ g b col ac ch ok, c ≠ .read g b col ac ch ok) : untakenOf c = id := by
  unfold untakenOf
  split
  · exact (hw _ _ _ _ _ _ rfl).elim
  · exact (hr _ _ _ _ _ _ rfl).elim
  · rfl

theorem untakenOf_read (g b : BitVec 2) (col : BitVec 10) (ac ch ok : Bool) (s : State) :
    untakenOf (.read g b col ac ch ok) s =
      { s with
        reads :=
          s.reads ++
            [{ burst :=
                 describe s.tracker.mode (.absent .untracked)
                   (burstExtent s.tracker.mode.burstMode col ch)
               startBeat := BitVec.ofNat 3 (col.toNat % 8)
               order := s.tracker.mode.burstOrder
               answer := none }] } := by
  rw [← startBeat_eq]
  rfl

/-- Settles O12, by what is done with a command that is not taken. -/
theorem commandsNotTaken : Obligations.CommandsNotTaken := by
  intro s ht
  refine ⟨fun c hc hw hr => ?_, fun g b col ac ch ok => exec_channel_untaken rfl ht,
    fun g b col ac ch ok => ?_⟩
  · obtain ⟨ok, hok⟩ := Option.ne_none_iff_exists'.1 hc
    rw [exec_channel_untaken hok ht, untakenOf_other hw hr]
    rfl
  · rw [exec_channel_untaken rfl ht, untakenOf_read]

/-! ### A command that fails the parity check (R16) -/

theorem alertLine_of_parityRecovery {s : State} (h : s.tracker.state = .parityRecovery) :
    alertLine s = true := by
  simp [alertLine, h]

/-- Settles O13: the failure is recorded, and the command is then handled as one not taken. -/
theorem parityFailureEntersRecovery : Obligations.ParityFailureEntersRecovery := by
  intro c s hc ht hp
  have hexec := exec_channel_failed hc ht hp
  rw [parityFailure, satInc_eq_saturated] at hexec
  refine ⟨_, hexec, ?_⟩
  by_cases hw : ∃ g b col ac ch ok, c = .write g b col ac ch ok
  · obtain ⟨g, b, col, ac, ch, ok, rfl⟩ := hw
    refine ⟨alertLine_of_parityRecovery rfl, rfl, fun g' b' col' ac' ch' h => ?_, nofun,
      fun h => ?_⟩
    · cases h
      exact ⟨rfl, rfl⟩
    · cases hc
      exact (h _ _ _ _ _ rfl).elim
  by_cases hr : ∃ g b col ac ch ok, c = .read g b col ac ch ok
  · obtain ⟨g, b, col, ac, ch, ok, rfl⟩ := hr
    rw [untakenOf_read]
    refine ⟨alertLine_of_parityRecovery rfl, rfl, nofun, fun g' b' col' ac' ch' h => ?_,
      fun _ h => ?_⟩
    · cases h
      exact ⟨rfl, rfl⟩
    · cases hc
      exact (h _ _ _ _ _ rfl).elim
  · have hother : untakenOf c = id :=
      untakenOf_other (fun g b col ac ch ok h => hw ⟨g, b, col, ac, ch, ok, h⟩)
        fun g b col ac ch ok h => hr ⟨g, b, col, ac, ch, ok, h⟩
    rw [hother]
    exact ⟨alertLine_of_parityRecovery rfl, rfl,
      fun g b col ac ch h => absurd ⟨g, b, col, ac, ch, false, h⟩ hw,
      fun g b col ac ch h => absurd ⟨g, b, col, ac, ch, false, h⟩ hr, fun _ _ => ⟨rfl, rfl⟩⟩

/-! ### What a command of the channel reaches (R1) -/

/-- Nothing changes beyond the tracker, the write path's records and the descriptions handed on. -/
def ReachesTrackerOnly (f : State → State) : Prop :=
  ∀ s, f s =
    { s with tracker := (f s).tracker, writePath := (f s).writePath, reads := (f s).reads }

theorem untakenOf_reaches (c : Instr) : ReachesTrackerOnly (untakenOf c) := by
  intro s
  cases c <;> rfl

theorem takenOf_reaches (c : Instr) : ReachesTrackerOnly (takenOf c) := by
  intro s
  cases c with
  | write g b col ac ch ok => rw [takenOf_write]
  | read g b col ac ch ok => rw [takenOf_read]
  | _ => rfl

theorem channelCommand_reaches {c : Instr} {ok : Bool} {f g : State → State}
    (hf : ReachesTrackerOnly f) (hg : ReachesTrackerOnly g) (s : State) :
    channelCommand c ok f g s =
      { s with
        ports.dramCommand := some c
        tracker := (channelCommand c ok f g s).tracker
        writePath := (channelCommand c ok f g s).writePath
        reads := (channelCommand c ok f g s).reads } := by
  unfold channelCommand
  simp only
  split
  · split
    · exact hg _
    · exact hf _
  · exact hg _

/-- Settles O14: whichever way it is handled, the command reaches nothing more. -/
theorem everyChannelCommandIsForwarded : Obligations.EveryChannelCommandIsForwarded := by
  intro c s hc
  obtain ⟨ok, hok⟩ := Option.ne_none_iff_exists'.1 hc
  exact ⟨_, exec_channel hok s, channelCommand_reaches (takenOf_reaches c) (untakenOf_reaches c) s⟩

end Sys2Proof.Machine
end

section
/-! SUPPORT. Burst geometry (sections 1.4 and 1.5), the lines of the part, channel reset and part
reset. -/

namespace Sys2Proof.Machine

/-! ### Steps (the queue) -/

/-- Settles O1: the definition of a step on a queue that is not empty. -/
theorem stepRunsFrontCommand : Obligations.StepRunsFrontCommand := by
  intro c rest s h
  rw [step, h]

/-! ### The fold of a line (R12) -/

/-- The digits of a line: row, bank group, bank and the column's line part (R12). -/
theorem foldLine_bankIndex (r : BitVec 16) (g b : BitVec 2) (c : BitVec 10) :
    foldLine r (bankIndex g b) c =
      (r.toNat * 16 + (4 * g.toNat + b.toNat)) * 128 + c.toNat / 8 := rfl

theorem exists_foldLine_eq {line : Nat} (h : line ≤ 134217727) :
    ∃ (r : BitVec 16) (g b : BitVec 2) (c : BitVec 10), foldLine r (bankIndex g b) c = line := by
  refine ⟨BitVec.ofNat 16 (line / 2048), BitVec.ofNat 2 (line / 512 % 4),
    BitVec.ofNat 2 (line / 128 % 4), BitVec.ofNat 10 (8 * (line % 128)), ?_⟩
  rw [foldLine_bankIndex]
  simp only [BitVec.toNat_ofNat]
  omega

/-- Settles O15: the four parts are the digits of the line in a mixed radix. -/
theorem foldIsOneToOneOntoTheLines : Obligations.FoldIsOneToOneOntoTheLines := by
  refine ⟨fun r g b c => ⟨foldLine_bankIndex r g b c, ?_⟩, fun r r' g g' b b' c c' h => ?_,
    fun line h => exists_foldLine_eq h⟩
  · rw [foldLine_bankIndex]
    have := r.isLt; have := g.isLt; have := b.isLt; have := c.isLt
    omega
  · rw [foldLine_bankIndex, foldLine_bankIndex] at h
    have := g.isLt; have := g'.isLt; have := b.isLt; have := b'.isLt
    have := c.isLt; have := c'.isLt
    refine ⟨BitVec.eq_of_toNat_eq ?_, BitVec.eq_of_toNat_eq ?_, BitVec.eq_of_toNat_eq ?_, ?_⟩ <;>
      omega

/-! ### The extent and the beats of a burst (R13, R15) -/

/-- R15: a READ delivers every beat of its line or half-line once, whatever its start beat. -/
theorem readBeat_perm :
    ∀ (e : Extent) (o : BurstOrder), ∀ s < 8,
      ((List.range e.beats).map (readBeat e o s)).Perm
        ((List.range e.beats).map fun k => e.firstBeat + k) := by
  intro e o
  cases e <;> cases o <;> decide

/-- Settles O16: the tables of R13 and R15 are the definitions; the permutations are finite. -/
theorem burstGeometry : Obligations.BurstGeometry := by
  have hhalf : ∀ n : Nat, n < 4 ↔ n ≤ 3 := fun n => Nat.lt_succ_iff
  refine ⟨fun col chop => ?_, fun s k _ _ => ⟨rfl, rfl⟩,
    fun s k _ _ => ⟨?_, ?_, rfl, rfl⟩, readBeat_perm⟩
  · simp only [burstExtent, hhalf, and_self]
  · exact Nat.zero_add _
  · exact Nat.zero_add _

/-! ### The lines of the part (R17, R19, R20, R40, R42, R162) -/

theorem judgeAssertion_startUp {s : State} (h : ¬ PastLoading s) : judgeAssertion s = s := by
  have hoff : s.part.state.afterLoading = false :=
    Bool.eq_false_iff.2 (mt (afterLoading_iff s).1 h)
  simp [judgeAssertion, hoff]

theorem judgeAssertion_own {s : State} (h : PastLoading s)
    (hown : s.tracker.state = .parityRecovery ∨ s.writePath.ownAlert = true) :
    judgeAssertion s = { s with writePath.ownAlert := false } := by
  simp [judgeAssertion, (afterLoading_iff s).2 h, hown]

theorem judgeAssertion_other {s : State} (h : PastLoading s) (ht : s.tracker.state = .tracking)
    (hown : s.writePath.ownAlert = false) : judgeAssertion s = addAlert .dramAlert s := by
  simp [judgeAssertion, (afterLoading_iff s).2 h, ht, hown]

theorem exec_dramAlertAssertion {s : State} (h : s.inputs.dramAlert = false) :
    exec .dramAlertAssertion s = .next (judgeAssertion { s with inputs.dramAlert := true }) := by
  show execDramAlertAssertion s = _
  rw [execDramAlertAssertion, h]
  rfl

theorem exec_channelReset_startUp {s : State} (h : ¬ PastLoading s) :
    exec .channelReset s = .next { s with inputs.controllerReset := true } := by
  show execChannelReset s = _
  have hoff : s.part.state.afterLoading = false :=
    Bool.eq_false_iff.2 (mt (afterLoading_iff s).1 h)
  cases hr : s.inputs.controllerReset with
  | false => simp [execChannelReset, hr, hoff]
  | true =>
    have hsame : { s with inputs.controllerReset := true } = s := by rw [← hr]
    rw [execChannelReset, if_pos hr, hsame]

/-- R19: the DRAM reset line follows the memory controller's after LOADING and is held before. -/
theorem dramResetLine_eq (s : State) :
    dramResetLine s = if PastLoading s then s.inputs.controllerReset else true := by
  simp only [dramResetLine, afterLoading_iff]

theorem alertLine_iff (s : State) :
    alertLine s = true ↔
      s.tracker.state = .parityRecovery ∨ 0 < s.writePath.pulses ∨ s.inputs.dramAlert = true := by
  simp [alertLine, or_assoc]

/-- Settles O18, event by event. -/
theorem lineEvents : Obligations.LineEvents := by
  intro s
  refine ⟨fun h => ⟨exec_channelReset_startUp h, ?_⟩, fun h => ?_, rfl, rfl, rfl, fun ha =>
    ⟨fun h => ?_, fun h hown => ?_, fun h ht hown => ?_⟩, fun ha => ?_, alertLine_iff s⟩
  · rw [dramResetLine_eq, if_neg h]
  · rw [dramResetLine_eq, if_pos h]
  · rw [exec_dramAlertAssertion ha,
      judgeAssertion_startUp (s := { s with inputs.dramAlert := true }) h]
  · rw [exec_dramAlertAssertion ha,
      judgeAssertion_own (s := { s with inputs.dramAlert := true }) h hown]
  · rw [exec_dramAlertAssertion ha,
      judgeAssertion_other (s := { s with inputs.dramAlert := true }) h ht hown]
    rfl
  · show execDramAlertDeassertion s = _
    rw [execDramAlertDeassertion, if_pos ha]

/-! ### Channel reset and part reset (R20, R79, R158) -/

/-- What a channel reset does to the tracker and the write path (R20, R42). -/
def channelSwept (s : State) : State :=
  { s with
    inputs.controllerReset := true
    tracker :=
      { s.tracker with
        banks := Vector.replicate 16 .closed, mode := ModeRecord.reset, state := .tracking }
    writePath.ownAlert := false }

theorem exec_channelReset_pastLoading {s : State} (h : PastLoading s)
    (hr : s.inputs.controllerReset = false) :
    exec .channelReset s = .next (endContexts (fun _ => true) .channelReset (channelSwept s)) := by
  show execChannelReset s = _
  rw [execChannelReset, hr, if_neg Bool.false_ne_true]
  simp only [(afterLoading_iff s).2 h, if_true]
  rfl

/-- Every context ended: the table is empty and the newest entries are kept (R77). -/
theorem endContexts_all (cause : EndCause) (s : State) (h : s.expired.length ≤ 16) :
    endContexts (fun _ => true) cause s =
      { s with
        contexts := []
        expired :=
          newestEntries
            (s.expired ++ s.contexts.map fun c => expiredEntryOf c cause s.time.ticks) } := by
  rw [endContexts_eq _ _ _ h]
  simp

/-- Settles O17: every context is ended once the tracker is swept, which moves no entry. -/
theorem channelResetSweepsTrackerAndContexts : Obligations.ChannelResetSweepsTrackerAndContexts := by
  intro s h hr hl
  rw [exec_channelReset_pastLoading h hr, endContexts_all _ (channelSwept s) hl]
  rfl

/-- Settles O43: part reset writes the reset values, and the store as its fate says. -/
theorem partResetSweepsEveryBlock : Obligations.PartResetSweepsEveryBlock :=
  fun _ _ => ⟨rfl, rfl⟩

/-! ### Placing a line (R46, R47) -/

theorem wellFormed_size {r : WindowRecord} (h : r.wellFormed = true) :
    r.size = 2 ∨ r.size = 4 ∨ r.size = 8 := by
  obtain ⟨hcode, -, -⟩ := (wellFormed_iff_recordHolds r).1 h
  unfold WindowRecord.size
  obtain h | h | h := hcode <;> simp [h]

theorem isTrailer_iff (pl : Placement) : pl.isTrailer = true ↔ pl.pos + 1 = pl.record.size := by
  simp [Placement.isTrailer]

/-- R47: slot index and line-in-slot of a line that a window covers lie within the window. -/
theorem placeIn_within {r : WindowRecord} {line : Nat} (w : Fin 8) (hs : 0 < r.size)
    (hc : r.covers line = true) :
    line = r.base.toNat + r.size * (placeIn w r line).slot + (placeIn w r line).pos ∧
      (placeIn w r line).slot < r.slots ∧ (placeIn w r line).pos < r.size := by
  obtain ⟨hbase, hlast⟩ := (covers_iff r line).1 hc
  rw [WindowRecord.lastLine] at hlast
  have hslots : 0 < r.slots := Nat.succ_pos _
  have hspan : 0 < r.size * r.slots := Nat.mul_pos hs hslots
  refine ⟨?_, ?_, Nat.mod_lt _ hs⟩
  · have hdiv : r.size * (placeIn w r line).slot + (placeIn w r line).pos =
        line - r.base.toNat := Nat.div_add_mod _ _
    omega
  · exact Nat.div_lt_of_lt_mul (by omega)

theorem placeInWindow_of_covers {s : State} {line : Nat} {w : Fin 8} {r : WindowRecord}
    (hrec : s.windows[w].record = some r) (he : r.enabled = true) (hc : r.covers line = true) :
    placeInWindow s line w = some (placeIn w r line) := by
  simp only [placeInWindow, hrec, he, hc, Bool.and_self, if_true]

/-- R46: a line that one enabled window covers and no other is placed in that window. -/
theorem placeLine_of_only {s : State} {line : Nat} {w : Fin 8} {r : WindowRecord}
    (hrec : s.windows[w].record = some r) (he : r.enabled = true) (hc : r.covers line = true)
    (honly : ∀ (v : Fin 8) (q : WindowRecord), v ≠ w → s.windows[v].record = some q →
      q.enabled = true → ¬ q.covers line = true) :
    ∃ pl : Placement, placeLine s line = some pl ∧ pl.window = w := by
  have hsome : (placeLine s line).isSome := by
    rw [placeLine, List.findSome?_isSome_iff]
    exact ⟨w, List.mem_finRange w, by rw [placeInWindow_of_covers hrec he hc]; rfl⟩
  obtain ⟨pl, hpl⟩ := Option.isSome_iff_exists.1 hsome
  obtain ⟨hrec', he', hc', -⟩ := placeLine_some hpl
  exact ⟨pl, hpl, by_contra fun hne => honly pl.window pl.record hne hrec' he' hc'⟩

theorem placeLine_of_no_records {s : State} (line : Nat)
    (h : ∀ w : Fin 8, s.windows[w].record = none) : placeLine s line = none := by
  rw [placeLine, List.findSome?_eq_none_iff]
  intro w _
  simp only [placeInWindow, h w]

/-- R44, R47: a line below the trailer line of its slot holds four blocks below the capacity. -/
theorem body_below_capacity {pl : Placement} (hpos : pl.pos < pl.record.size)
    (hbody : pl.isTrailer = false) : 4 * pl.pos + 3 < pl.record.capacity := by
  have hne : ¬ pl.pos + 1 = pl.record.size := fun h => by simp [(isTrailer_iff pl).2 h] at hbody
  unfold WindowRecord.capacity
  omega

/-- Settles O19: a placement is that of a window whose record covers the line. -/
theorem linePlacement : Obligations.LinePlacement := by
  refine ⟨fun s line pl h => ?_, fun s line w r hrec he hlo hhi honly => ?_,
    fun s line h => placeLine_of_no_records line h⟩
  · obtain ⟨hrec, he, hc, hpl⟩ := placeLine_some h
    obtain ⟨hbase, hlast⟩ := (covers_iff _ _).1 hc
    have hslot : pl.slot = (line - pl.record.base.toNat) / pl.record.size := by
      conv_lhs => rw [hpl]
      rfl
    have hpos : pl.pos = (line - pl.record.base.toNat) % pl.record.size := by
      conv_lhs => rw [hpl]
      rfl
    refine ⟨hrec, he, hbase, hlast, hslot, hpos, fun hwf => ?_⟩
    have hsize : 0 < pl.record.size := by
      obtain h | h | h := wellFormed_size hwf <;> omega
    have hwithin := placeIn_within pl.window hsize hc
    rw [← hpl] at hwithin
    obtain ⟨hline, hslots, hlt⟩ := hwithin
    exact ⟨hline, hslots, hlt, (isTrailer_iff pl).trans (by omega), body_below_capacity hlt⟩
  · exact placeLine_of_only hrec he ((covers_iff r line).2 ⟨hlo, hhi⟩) fun v q hv hq hqe hqc =>
      honly v q hv hq hqe ((covers_iff q line).1 hqc)

end Sys2Proof.Machine
end

section
/-! SUPPORT. The time base (section 9): clock periods, ticks, expiry and the stopped clock; and the
invariants at reset. -/

namespace Sys2Proof.Machine

/-! ### Steps without a command (R151, R156) -/

section
variable {s : State}

theorem idle_succ (n : Nat) (hq : s.pending = []) : idle (n + 1) s = idle n (clockPeriod s) := by
  rw [idle, step, hq]

theorem clockPeriod_counts {p : Nat} (hr : timeRuns s = true) (hp : s.time.prescaler = some p)
    (hlt : s.time.count + 1 < p) :
    clockPeriod s = { s with time.count := s.time.count + 1 } := by
  rw [clockPeriod, if_pos hr, hp, Option.getD_some, if_pos hlt]

theorem clockPeriod_ticks {p : Nat} (hr : timeRuns s = true) (hp : s.time.prescaler = some p)
    (hge : p ≤ s.time.count + 1) : clockPeriod s = takeTick s := by
  rw [clockPeriod, if_pos hr, hp, Option.getD_some, if_neg (Nat.not_lt.2 hge)]

theorem clockPeriod_stopped (hr : timeRuns s = false) : clockPeriod s = s := by
  rw [clockPeriod, hr, if_neg Bool.false_ne_true]

end

theorem idle_counts {p : Nat} (k : Nat) :
    ∀ s : State, s.pending = [] → timeRuns s = true → s.time.prescaler = some p →
      s.time.count + k < p → idle k s = { s with time.count := s.time.count + k } := by
  induction k with
  | zero => exact fun s _ _ _ _ => rfl
  | succ k ih =>
    intro s hq hr hp hlt
    rw [idle_succ k hq, clockPeriod_counts hr hp (by omega),
      ih { s with time.count := s.time.count + 1 } hq hr hp (by simp only; omega)]
    simp only [Nat.add_assoc, Nat.add_comm 1 k]

/-- The count does not matter to the tick that ends it. -/
theorem idle_ticks {p : Nat} (k : Nat) :
    ∀ s : State, s.pending = [] → timeRuns s = true → s.time.prescaler = some p →
      s.time.count + k + 1 = p → idle (k + 1) s = takeTick s := by
  induction k with
  | zero =>
    intro s hq hr hp hcount
    rw [idle_succ 0 hq, clockPeriod_ticks hr hp (by omega)]
    rfl
  | succ k ih =>
    intro s hq hr hp hcount
    rw [idle_succ _ hq, clockPeriod_counts hr hp (by omega),
      ih { s with time.count := s.time.count + 1 } hq hr hp (by simp only; omega)]
    rfl

theorem idle_stopped (n : Nat) {s : State} (hq : s.pending = []) (hr : timeRuns s = false) :
    idle n s = s := by
  induction n with
  | zero => rfl
  | succ n ih => rw [idle_succ n hq, clockPeriod_stopped hr, ih]

/-! ### Ticks and expiry (R78, R151, R154) -/

theorem exec_tick_runs {s : State} (hr : timeRuns s = true) :
    exec .tick s = .next (takeTick s) := congrArg Host.Outcome.next (if_pos hr)

theorem exec_contextExpiry_runs {s : State} (hr : timeRuns s = true) (w : Fin 8) (slot : Nat) :
    exec (.contextExpiry w slot) s =
      .next (endContexts (fun c => c.isFor w slot && expiryDue s c) .timeout s) :=
  congrArg Host.Outcome.next (if_pos hr)

theorem exec_tick_stopped {s : State} (hr : timeRuns s = false) : exec .tick s = .next s :=
  congrArg Host.Outcome.next (if_neg (Bool.eq_false_iff.1 hr))

theorem exec_contextExpiry_stopped {s : State} (hr : timeRuns s = false) (w : Fin 8) (slot : Nat) :
    exec (.contextExpiry w slot) s = .next s :=
  congrArg Host.Outcome.next (if_neg (Bool.eq_false_iff.1 hr))

/-- The state in which a tick judges its contexts: the count returned, the counter raised (R151). -/
def tickRaised (s : State) : State :=
  { s with time := { s.time with count := 0, ticks := s.time.ticks + 1 } }

theorem takeTick_eq (s : State) :
    takeTick s = endContexts (due s (s.time.ticks + 1)) .timeout (tickRaised s) := by
  show endContexts (expiryDue (tickRaised s)) .timeout (tickRaised s) = _
  rw [expiryDue_eq_due]
  rfl

/-- Settles O2: the periods only count until the last, which is the tick. -/
theorem idlePeriodsMakeATick : Obligations.IdlePeriodsMakeATick := by
  intro s p hq hpast hclock hp hlt
  have hr : timeRuns s = true := (timeRuns_iff s).2 ⟨hpast, hclock⟩
  refine ⟨fun k hk => idle_counts k s hq hr hp hk, ?_⟩
  obtain ⟨k, hk⟩ : ∃ k, p - s.time.count = k + 1 := ⟨p - s.time.count - 1, by omega⟩
  rw [exec_tick_runs hr, hk, idle_ticks k s hq hr hp (by omega)]

/-- Settles O3: both are the ending of the contexts that are due, judged at the counter's value. -/
theorem tickAndExpiryEndQuietContexts : Obligations.TickAndExpiryEndQuietContexts := by
  refine ⟨fun s hpast hclock hl => ?_, fun s w slot hpast hclock hl => ?_, fun s w slot h => ?_⟩
  · rw [exec_tick_runs ((timeRuns_iff s).2 ⟨hpast, hclock⟩), takeTick_eq,
      endContexts_eq _ _ (tickRaised s) hl]
    rfl
  · rw [exec_contextExpiry_runs ((timeRuns_iff s).2 ⟨hpast, hclock⟩), expiryDue_eq_due,
      endContexts_eq _ _ _ hl]
    rfl
  · have hr : timeRuns s = false := Bool.eq_false_iff.2 (mt (timeRuns_iff s).1 h)
    exact ⟨exec_tick_stopped hr, exec_contextExpiry_stopped hr w slot⟩

/-- Settles O4: with the clock stopped the time base does not run and the link does not answer. -/
theorem stoppedClockIsNoTime : Obligations.StoppedClockIsNoTime := by
  intro s hq hclock
  have hr : timeRuns { s with inputs.clockRunning := false } = false := Bool.and_false _
  have hlink : linkAnswers { s with inputs.clockRunning := false } = false := Bool.and_false _
  refine ⟨_, rfl, fun n => idle_stopped n hq hr, exec_tick_stopped hr,
    exec_contextExpiry_stopped hr, fun address n => ?_, ?_⟩
  · rw [readTransaction, hlink]
    rfl
  · show Host.Outcome.next { s with inputs.clockRunning := true } = _
    rw [← hclock]

/-! ### The invariants at reset (R3, R58, R87, R139, R152, R158) -/

theorem contextTableInv_of_empty {s : State} (hc : s.contexts = []) (he : s.expired = []) :
    ContextTableInv s where
  contexts_length := by simp [hc]
  contexts_sorted := by simp [hc]
  expired_length := by simp [he]
  expired_distinct := by simp [he]
  expired_closed := by simp [he]

theorem coverageInv_of_empty {s : State} (hc : s.contexts = []) : CoverageInv s := by
  intro c h
  rw [hc] at h
  exact absurd h List.not_mem_nil

/-- A part in RESET with its blocks at their reset values, whatever the store, the transport key, the
lines and the queue hold (R158). -/
theorem phaseInv_of_reset {s : State} (hstate : s.part.state = .reset) (hc : s.contexts = [])
    (he : s.expired = []) (hw : ∀ w : Fin 8, s.windows[w].record = none)
    (ht : s.time = State.reset.time) (htr : s.tracker = State.reset.tracker)
    (hd : s.derivation = State.reset.derivation) (hl : s.link.loadInProgress = false) :
    PhaseInv s where
  tables_active _ := ⟨hc, he⟩
  records_none _ := hw
  records_loaded h := by simp [HoldsRecords, hstate] at h
  time_held _ := by rw [ht]; exact ⟨rfl, rfl, rfl⟩
  time_runs h := absurd hstate h.1
  tracker_held _ := htr
  self_test h := by simp [hstate] at h
  active_work h := by simp [hstate] at h
  idle_work _ _ := by rw [hd]; exact ⟨rfl, rfl⟩
  pending_waits h := by rw [hd] at h; exact absurd rfl h
  mark := by simp [hl, hd, State.reset]

/-- Settles O58: every block stands at its reset value, and the first store has no marker. -/
theorem invariantsHoldAtReset : Obligations.InvariantsHoldAtReset := by
  have hphase : PhaseInv State.reset :=
    phaseInv_of_reset rfl rfl rfl (by decide) rfl rfl rfl rfl
  refine ⟨contextTableInv_of_empty rfl rfl, hphase, coverageInv_of_empty rfl, hphase, nofun, nofun,
    fun c hc => absurd hc List.not_mem_nil⟩

end Sys2Proof.Machine
end

section
/-! SUPPORT. The derivation unit (section 8): what it takes up next, and the completions of a refill and
of a key load's unwrap. -/

namespace Sys2Proof.Machine

/-! ### What the unit takes up next (R139 to R142) -/

theorem takeUpNext_not_free {s : State}
    (h : s.part.state ≠ .active ∨ s.derivation.inFlight ≠ none) : takeUpNext s = s :=
  if_neg fun hfree => h.elim (fun hs => hs hfree.1) fun hf => hf hfree.2

section
variable {s : State}

theorem takeUpNext_pending (hs : s.part.state = .active) (hf : s.derivation.inFlight = none)
    {p : Fin 16} {b : KeyBlock} (hp : s.derivation.pendingLoad = some (p, b)) :
    takeUpNext s =
      { s with
        derivation :=
          { s.derivation with inFlight := some (.unwrap p (some b)), pendingLoad := none } } := by
  rw [takeUpNext, if_pos ⟨hs, hf⟩, hp]

theorem takeUpNext_no_pending (hs : s.part.state = .active) (hf : s.derivation.inFlight = none)
    (hp : s.derivation.pendingLoad = none) :
    takeUpNext s = (nextRefill s).elim s fun p => takeUpRefill p s := by
  rw [takeUpNext, if_pos ⟨hs, hf⟩, hp]
  cases nextRefill s <;> rfl

theorem nextRefill_eq_none (h : ∀ p, ¬ NeedsRefill s p) : nextRefill s = none :=
  List.find?_eq_none.2 fun p _ => mt (needsRefill_iff s p).1 (h p)

theorem eq_placesAfter {p q : Fin 16} {k : Nat} (h : q.val = (p.val + 1 + k) % 16) :
    placesAfter p k = q := Fin.ext h.symm

/-- R141: the search goes through the positions in turn, beginning one place after the pointer. -/
theorem nextRefill_eq_some {k : Nat} {p : Fin 16} (hk : k < 16)
    (hp : p.val = (s.derivation.pointer.val + 1 + k) % 16) (hneeds : NeedsRefill s p)
    (hfirst : ∀ (j : Nat) (q : Fin 16), j < k → q.val = (s.derivation.pointer.val + 1 + j) % 16 →
      ¬ NeedsRefill s q) :
    nextRefill s = some p := by
  have hfind : (List.range 16).find? (needsRefill s ∘ placesAfter s.derivation.pointer) =
      some k := by
    rw [List.find?_range_eq_some]
    refine ⟨?_, List.mem_range.2 hk, fun j hj => ?_⟩
    · rw [Function.comp_apply, eq_placesAfter hp, needsRefill_iff]
      exact hneeds
    · rw [Function.comp_apply, Bool.not_eq_true', ← Bool.not_eq_true, needsRefill_iff]
      exact hfirst j _ hj rfl
  rw [nextRefill, List.find?_map, hfind, Option.map_some, eq_placesAfter hp]

end

/-- Settles O38, by the arms of the arbiter. -/
theorem derivationUnitTakesUpNext : Obligations.DerivationUnitTakesUpNext := by
  refine fun s => ⟨takeUpNext_not_free, fun hs hf => ⟨fun p b => takeUpNext_pending hs hf,
    fun hp => ⟨fun hnone => ?_, fun k p hk hpk hneeds hfirst key hkey => ?_⟩⟩⟩
  · rw [takeUpNext_no_pending hs hf hp, nextRefill_eq_none hnone]
    rfl
  · rw [takeUpNext_no_pending hs hf hp, nextRefill_eq_some hk hpk hneeds hfirst, Option.elim_some,
      takeUpRefill_eq, hkey]
    rfl

/-! ### A refill completes (R120, R134, R143) -/

/-- Bytes 12 to 15 of a derivation block as one number. -/
theorem derivationBlock_eq (keyId : KeyId) (n : Nat) (last : Byte) :
    derivationBlock keyId n last = keyId ++ BitVec.ofNat 32 n ++ last.setWidth 32 := by
  refine BitVec.eq_of_getLsbD_eq fun i _ => ?_
  have hlast : 8 ≤ i → last.getLsbD i = false := BitVec.getLsbD_of_ge last i
  simp only [derivationBlock, BitVec.getLsbD_append, BitVec.getLsbD_setWidth, BitVec.getLsbD_zero]
  grind

theorem holdsKey_iff (x : KeyPosition) : holdsKey x = true ↔ InUse x := by
  simp [holdsKey]

theorem refillAccepted_iff (s : State) (p : Fin 16) (g : BitVec 32) :
    refillAccepted s p g = true ↔
      s.store.positions[p].generation = g ∧ InUse s.store.positions[p] := by
  rw [refillAccepted, Bool.and_eq_true, beq_iff_eq, holdsKey_iff]

section
variable {s : State} {p : Fin 16} {n : Nat} {g : BitVec 32}

theorem applyRefill_accepted {k : Block} {i : KeyId} (hg : s.store.positions[p].generation = g)
    (hu : InUse s.store.positions[p]) :
    applyRefill p n g (some (k, i)) s =
      { s with
        pools :=
          s.pools.set p
            (s.pools[p] ++
              [{ counter := n
                 ek := encipher k (i ++ BitVec.ofNat 32 n ++ 0x00000001#32)
                 ak := encipher k (i ++ BitVec.ofNat 32 n ++ 0x00000002#32) }]) } := by
  simp only [applyRefill, if_pos ((refillAccepted_iff s p g).2 ⟨hg, hu⟩), derivePair,
    derivationBlock_eq]
  rfl

theorem applyRefill_discarded {key : Option (Block × KeyId)}
    (h : key = none ∨ s.store.positions[p].generation ≠ g ∨ ¬ InUse s.store.positions[p]) :
    applyRefill p n g key s = s := by
  obtain _ | ⟨k, i⟩ := key
  · rfl
  · refine if_neg fun hacc => ?_
    obtain ⟨hg, hu⟩ := (refillAccepted_iff s p g).1 hacc
    obtain h | h | h := h
    · exact nomatch h
    · exact h hg
    · exact h hu

theorem exec_refillCompletion {key : Option (Block × KeyId)}
    (h : s.derivation.inFlight = some (.refill p n g key)) :
    exec .refillCompletion s =
      .next
        (takeUpNext
          (spentTest p (applyRefill p n g key { s with derivation.inFlight := none }))) := by
  show execRefillCompletion s = _
  rw [execRefillCompletion, h]

end

theorem usedUp_eq_false_of_pool {s : State} {p : Fin 16} (h : s.pools[p] ≠ []) :
    usedUp s p = false := by
  have hpool : s.pools[p].isEmpty = false := by simpa using h
  simp only [usedUp, hpool, Bool.and_false, Bool.false_and]

/-- Settles O39: an entry that joins the pool leaves the SPENT test nothing to find. -/
theorem refillCompletes : Obligations.RefillCompletes := by
  intro s p n g key hf x ended
  refine ⟨fun k i hkey hg hu => ?_, fun h => ?_⟩
  · subst hkey
    rw [exec_refillCompletion hf, applyRefill_accepted (s := ended) hg hu, spentTest_eq,
      usedUp_eq_false_of_pool]
    · rfl
    · simp
  · rw [exec_refillCompletion hf, applyRefill_discarded (s := ended) h, spentTest_eq]

/-! ### A key load's unwrap completes (R118, R136) -/

theorem eq_positionA_or_positionB {q : Fin 16} {w : Fin 8} (h : ownerWindow q = w) :
    q = positionA w ∨ q = positionB w := by
  revert q w
  decide

theorem activePosition_eq_none_iff (s : State) (w : Fin 8) :
    activePosition s w = none ↔
      ∀ q : Fin 16, ownerWindow q = w → s.store.positions[q].state ≠ .active := by
  obtain ⟨q, hq, hown, hactive⟩ | ⟨hnone, hA, hB⟩ := activePosition_cases s w
  · exact iff_of_false (by simp [hq]) fun h => h q hown hactive
  · refine iff_of_true hnone fun q hown => ?_
    obtain rfl | rfl := eq_positionA_or_positionB hown
    · exact hA
    · exact hB

/-- R136: a window's other position decides whether the loaded one becomes ACTIVE. -/
theorem activePosition_eq_none_iff_partner {s : State} {p : Fin 16}
    (h : s.store.positions[p].state ≠ .active) :
    activePosition s (ownerWindow p) = none ↔ s.store.positions[partner p].state ≠ .active := by
  rw [activePosition_eq_none_iff]
  refine ⟨fun hall => hall _ (partner_facts p).2.2, fun hpartner q hown => ?_⟩
  obtain rfl | rfl := eq_or_eq_partner hown
  · exact h
  · exact hpartner

/-- The position a key block loads (R136). -/
theorem loadPosition_eq {s : State} {p : Fin 16} (b : KeyBlock) (key : Block)
    (h : s.store.positions[p].state ≠ .active) :
    loadPosition p b key s =
      { s with
        pools := s.pools.set p []
        store.positions :=
          s.store.positions.set p
            { state := if s.store.positions[partner p].state = .active then .ready else .active
              keyId := b.keyId, baseKey := some key, check := some b.check
              start := b.start.toNat, limit := b.limit.toNat, next := b.start.toNat
              generation := s.store.positions[p].generation + 1 } } := by
  simp only [loadPosition, activePosition_eq_none_iff_partner h, ne_eq, ite_not]
  rfl

section
variable {s : State} {p : Fin 16}

theorem exec_keyLoadUnwrapCompletion {block : Option KeyBlock}
    (h : s.derivation.inFlight = some (.unwrap p block)) :
    exec .keyLoadUnwrapCompletion s =
      .next (takeUpNext (judgeLoad p block { s with derivation.inFlight := none })) := by
  show execKeyLoadUnwrapCompletion s = _
  rw [execKeyLoadUnwrapCompletion, h]

theorem judgeLoad_eq (b : KeyBlock) :
    judgeLoad p (some b) s =
      if (encipher (decipher s.transportKey b.enciphered) 0#128).extractLsb' 104 24 ≠ b.check then
        answerLoad .badCheck s
      else if s.store.positions[p].state = .active then answerLoad .positionActive s
      else answerLoad .ok (loadPosition p b (decipher s.transportKey b.enciphered) s) := rfl

end

/-- Settles O40, by the outcomes of the unwrap in their order. -/
theorem unwrapCompletes : Obligations.UnwrapCompletes := by
  intro s p block hf ended x
  refine ⟨fun hb => ?_, fun b hb => ⟨fun hcheck => ?_, fun hcheck ha => ?_, fun hcheck ha => ?_⟩⟩ <;>
    subst hb <;> rw [exec_keyLoadUnwrapCompletion hf]
  · rfl
  · rw [judgeLoad_eq, if_pos hcheck]
    rfl
  · rw [judgeLoad_eq, if_neg (not_not.2 hcheck), if_pos ha]
    rfl
  · rw [judgeLoad_eq, if_neg (not_not.2 hcheck), if_neg ha, loadPosition_eq (s := ended) b _ ha]
    rfl

end Sys2Proof.Machine
end

section
/-! SUPPORT. Tamper, the release of part reset and the end of the image transfer (sections 10 and 11). -/

namespace Sys2Proof.Machine

/-! ### Tamper (R50, R80, R127, R149, R162) -/

/-- R127: the statement's list of what becomes of an operation in flight is `voidOperation`. -/
theorem tampered_derivation (s : State) :
    (tampered s).derivation =
      { s.derivation with
        inFlight := s.derivation.inFlight.map voidOperation, pendingLoad := none } := by
  unfold tampered
  obtain ho | ⟨o, ho⟩ := Option.eq_none_or_eq_some s.derivation.inFlight
  · simp only [ho, Option.map_none]
  · cases o <;> simp only [ho, Option.map_some, voidOperation]

theorem answerDroppedLoad_eq (s : State) :
    answerDroppedLoad s =
      { s with
        link :=
          if s.derivation.pendingLoad = none then s.link
          else
            { s.link with
              answer := { code := .tampered, echo := 0x10#8, data := [] }
              loadInProgress := false } } := by
  unfold answerDroppedLoad
  cases s.derivation.pendingLoad <;> rfl

/-- Tamper taken with the latch clear: each block is written once. -/
theorem takeTamper_unlatched {s : State} (h : s.store.latch = false)
    (hl : s.expired.length ≤ 16) : takeTamper s = tampered s := by
  simp only [takeTamper, raiseNotice_store, h, Bool.false_eq_true, if_false, answerDroppedLoad_eq]
  rw [endContexts_all]
  · calc _ = { tampered s with derivation := (tamperDerivation s).derivation } := rfl
      _ = tampered s := by rw [tamperDerivation_derivation, ← tampered_derivation]
  · exact hl

section
variable {s : State} (h : s.inputs.tamperLine = false)
include h

theorem exec_tamper_reset (hs : s.part.state = .reset) :
    exec .tamper s = .next { s with inputs.tamperLine := true } := by
  show execTamper s = _
  rw [execTamper, h]
  simp only [hs, if_true, Bool.false_eq_true, if_false]

theorem exec_tamper_taken (hs : s.part.state ≠ .reset) :
    exec .tamper s = .next (takeTamper { s with inputs.tamperLine := true }) := by
  show execTamper s = _
  rw [execTamper, h]
  simp only [hs, Bool.false_eq_true, if_false]

end

/-- Settles O45: outside RESET the tamper is taken, by the latch. -/
theorem tamperDestroysKeysAndFreezes : Obligations.TamperDestroysKeysAndFreezes := by
  intro s h t
  refine ⟨exec_tamper_reset h, fun hs hlatch => ?_, fun hs hlatch hl => ?_⟩
  · rw [exec_tamper_taken h hs, takeTamper_latched t hlatch]
  · rw [exec_tamper_taken h hs, takeTamper_unlatched (s := t) hlatch hl]

/-! ### The release of part reset (R158, R167) -/

/-- LOADING begins with the request for the image (R167). -/
def beginLoading (s : State) : State :=
  { s with part.state := .loading, ports.configPort := [.busRelease, .readRequest 0] }

theorem exec_partResetRelease {s : State} (hs : s.part.state = .reset) :
    exec .partResetRelease s =
      .next (beginLoading (if s.inputs.tamperLine then takeTamper s else s)) := by
  show execPartResetRelease s = _
  rw [execPartResetRelease, if_pos hs]
  rfl

/-- Settles O44, by the tamper line and the latch. -/
theorem partResetReleaseBeginsLoading : Obligations.PartResetReleaseBeginsLoading := by
  intro s hs loading
  rw [exec_partResetRelease hs]
  refine ⟨fun hline => ?_, fun hline hlatch => ?_, fun hline hlatch hl => ?_⟩
  · rw [hline]
    rfl
  · rw [if_pos hline, takeTamper_latched s hlatch]
    rfl
  · rw [if_pos hline, takeTamper_unlatched hlatch hl]
    rfl

/-! ### The end of the image transfer (R171, R172) -/

section
variable {s : State} (hs : s.part.state = .loading) (hclock : s.inputs.clockRunning = true)
include hs hclock

theorem exec_imageTransferComplete_absent :
    exec (.imageTransferComplete none) s = .next (leaveFailed .absent s) := by
  show execImageTransferComplete none s = _
  rw [execImageTransferComplete, if_pos ⟨hs, hclock⟩]
  rfl

theorem exec_imageTransferComplete_read (bytes : List Byte) :
    exec (.imageTransferComplete (some bytes)) s =
      .next
        (leaveLoading (checkImage (workingCopyOf bytes))
          { s with loader.workingCopy := workingCopyOf bytes }) := by
  show execImageTransferComplete (some bytes) s = _
  rw [execImageTransferComplete, if_pos ⟨hs, hclock⟩]

end

theorem length_workingCopyOf (bytes : List Byte) : (workingCopyOf bytes).length = 138 := by
  simp [workingCopyOf]

/-- Settles O47, by the outcome of the checks. -/
theorem imageTransferDecidesTheOutcome : Obligations.ImageTransferDecidesTheOutcome := by
  intro s hs hclock failed
  refine ⟨exec_imageTransferComplete_absent hs hclock, fun bytes => ⟨fun hbad => ?_, fun hgood => ?_⟩⟩
  · exact (exec_imageTransferComplete_read hs hclock bytes).trans
      (congrArg Host.Outcome.next (if_neg hbad))
  · have hlen : 4 + 1 < (workingCopyOf bytes).length := by
      rw [length_workingCopyOf]
      omega
    have hfield : fieldBE (workingCopyOf bytes) 4 2 = _ := fieldBE_two hlen
    refine (exec_imageTransferComplete_read hs hclock bytes).trans
      (congrArg Host.Outcome.next ((if_pos hgood).trans ?_))
    rw [leaveValid]
    simp only [hfield]
    rfl

end Sys2Proof.Machine
end

section
/-! SUPPORT. SELF-TEST (sections 8.6 and 10.2): the key table window by window, the end of SELF-TEST,
and the completions of its operations. -/

namespace Sys2Proof.Machine

/-! ### The key table as one pair of positions for each window (section 8) -/

/-- Positions A and B of a window. -/
def pairOf (xs : Vector KeyPosition 16) (w : Fin 8) : KeyPosition × KeyPosition :=
  (xs[positionA w], xs[positionB w])

/-- The key table whose windows hold the given pairs. -/
def ofPairs (g : Fin 8 → KeyPosition × KeyPosition) : Vector KeyPosition 16 :=
  Vector.ofFn fun p : Fin 16 =>
    if p = positionA (ownerWindow p) then (g (ownerWindow p)).1 else (g (ownerWindow p)).2

theorem exists_window (p : Fin 16) : ∃ w, p = positionA w ∨ p = positionB w :=
  ⟨ownerWindow p, eq_positionA_or_positionB rfl⟩

theorem positionB_ne_positionA (w v : Fin 8) : positionB w ≠ positionA v := by
  revert w v
  decide

theorem ofPairs_getElem (g : Fin 8 → KeyPosition × KeyPosition) (p : Fin 16) :
    (ofPairs g)[p] =
      if p = positionA (ownerWindow p) then (g (ownerWindow p)).1 else (g (ownerWindow p)).2 :=
  Vector.getElem_ofFn _

@[simp] theorem ofPairs_positionA (g : Fin 8 → KeyPosition × KeyPosition) (w : Fin 8) :
    (ofPairs g)[positionA w] = (g w).1 := by
  rw [ofPairs_getElem, (ownerWindow_positions w).1, if_pos rfl]

@[simp] theorem ofPairs_positionB (g : Fin 8 → KeyPosition × KeyPosition) (w : Fin 8) :
    (ofPairs g)[positionB w] = (g w).2 := by
  rw [ofPairs_getElem, (ownerWindow_positions w).2.1, if_neg (positionB_ne_positionA w w)]

/-- Two key tables that hold the same pairs are the same. -/
theorem positions_ext {xs ys : Vector KeyPosition 16} (hA : ∀ w, xs[positionA w] = ys[positionA w])
    (hB : ∀ w, xs[positionB w] = ys[positionB w]) : xs = ys := by
  refine Vector.ext fun i hi => ?_
  obtain ⟨p, rfl⟩ : ∃ p : Fin 16, p.val = i := ⟨⟨i, hi⟩, rfl⟩
  obtain ⟨w, rfl | rfl⟩ := exists_window p
  · exact hA w
  · exact hB w

theorem ofPairs_pairOf (xs : Vector KeyPosition 16) : ofPairs (pairOf xs) = xs :=
  positions_ext (fun w => ofPairs_positionA _ w) fun w => ofPairs_positionB _ w

theorem getElem_set_fin {α : Type} {n : Nat} (xs : Vector α n) (p q : Fin n) (x : α) :
    (xs.set p x)[q] = if q = p then x else xs[q] := by
  by_cases h : q = p
  · subst h
    simp
  · rw [if_neg h]
    exact Vector.getElem_set_ne _ _ fun hval => h (Fin.ext hval.symm)

theorem positionA_inj {v w : Fin 8} : positionA v = positionA w ↔ v = w := by
  revert v w
  decide

theorem positionB_inj {v w : Fin 8} : positionB v = positionB w ↔ v = w := by
  revert v w
  decide

theorem ofPairs_set_positionA (g : Fin 8 → KeyPosition × KeyPosition) (w : Fin 8)
    (x : KeyPosition) :
    (ofPairs g).set (positionA w) x = ofPairs (Function.update g w (x, (g w).2)) := by
  refine positions_ext (fun v => ?_) fun v => ?_
  · simp only [getElem_set_fin, ofPairs_positionA, positionA_inj, Function.update_apply]
    split <;> rfl
  · rw [getElem_set_fin, if_neg (positionB_ne_positionA v w), ofPairs_positionB,
      ofPairs_positionB, Function.update_apply]
    split
    · next h => rw [h]
    · rfl

theorem ofPairs_set_positionB (g : Fin 8 → KeyPosition × KeyPosition) (w : Fin 8)
    (x : KeyPosition) :
    (ofPairs g).set (positionB w) x = ofPairs (Function.update g w ((g w).1, x)) := by
  refine positions_ext (fun v => ?_) fun v => ?_
  · rw [getElem_set_fin, if_neg (positionB_ne_positionA w v).symm, ofPairs_positionA,
      ofPairs_positionA, Function.update_apply]
    split
    · next h => rw [h]
    · rfl
  · simp only [getElem_set_fin, ofPairs_positionB, positionB_inj, Function.update_apply]
    split <;> rfl

/-! ### Changes of one window after another -/

/-- The notice causes with NO_KEY among them when a condition holds. -/
def withNoKey (raised : Prop) [Decidable raised] (notices : BitVec 7) : BitVec 7 :=
  if raised then notices ||| 0x20#7 else notices

theorem withNoKey_withNoKey (p q : Prop) [Decidable p] [Decidable q] (n : BitVec 7) :
    withNoKey p (withNoKey q n) = withNoKey (p ∨ q) n := by
  unfold withNoKey
  by_cases hp : p <;> by_cases hq : q <;> simp [hp, hq, BitVec.or_assoc]

theorem withNoKey_congr {p q : Prop} [Decidable p] [Decidable q] (h : p ↔ q) (n : BitVec 7) :
    withNoKey p n = withNoKey q n :=
  if_congr h rfl rfl

/-- A state with the key table and the notice causes replaced. -/
def withPairs (s : State) (g : Fin 8 → KeyPosition × KeyPosition) (n : BitVec 7) : State :=
  { s with store.positions := ofPairs g, part.notices := n }

theorem withPairs_self (s : State) :
    withPairs s (pairOf s.store.positions) s.part.notices = s := by
  rw [withPairs, ofPairs_pairOf]

/-- Changes that each reach one window's pair, made of every window in turn, are made of all the pairs
at once; NO_KEY is raised when some window raises it. -/
theorem foldl_withPairs {s : State} {change : State → Fin 8 → State}
    {f : Fin 8 → KeyPosition × KeyPosition → KeyPosition × KeyPosition}
    {r : Fin 8 → KeyPosition × KeyPosition → Prop} [∀ w x, Decidable (r w x)]
    (hchange : ∀ g n w, change (withPairs s g n) w =
      withPairs s (Function.update g w (f w (g w))) (withNoKey (r w (g w)) n))
    (l : List (Fin 8)) :
    ∀ g n, l.Nodup → l.foldl change (withPairs s g n) =
      withPairs s (fun w => if w ∈ l then f w (g w) else g w)
        (withNoKey (∃ w ∈ l, r w (g w)) n) := by
  induction l with
  | nil =>
    intro g n _
    simp [withNoKey]
  | cons v rest ih =>
    intro g n hl
    obtain ⟨hv, hrest⟩ := List.nodup_cons.1 hl
    have hkeep : ∀ w ∈ rest, Function.update g v (f v (g v)) w = g w :=
      fun w hw => Function.update_of_ne (ne_of_mem_of_not_mem hw hv) _ _
    rw [List.foldl_cons, hchange, ih _ _ hrest, withNoKey_withNoKey]
    congr 1
    · funext w
      by_cases hw : w ∈ rest
      · simp [hw, hkeep w hw]
      · by_cases hwv : w = v
        · subst hwv
          simp [hw]
        · simp [hw, hwv]
    · congr 1
      rw [eq_iff_iff, List.exists_mem_cons_iff, or_comm]
      refine or_congr Iff.rfl (exists_congr fun w => and_congr_right fun hw => ?_)
      rw [hkeep w hw]

theorem foldl_withPairs_finRange {s : State} {change : State → Fin 8 → State}
    {f : Fin 8 → KeyPosition × KeyPosition → KeyPosition × KeyPosition}
    {r : Fin 8 → KeyPosition × KeyPosition → Prop} [∀ w x, Decidable (r w x)]
    (hchange : ∀ g n w, change (withPairs s g n) w =
      withPairs s (Function.update g w (f w (g w))) (withNoKey (r w (g w)) n))
    (g : Fin 8 → KeyPosition × KeyPosition) (n : BitVec 7) :
    (List.finRange 8).foldl change (withPairs s g n) =
      withPairs s (fun w => f w (g w)) (withNoKey (∃ w, r w (g w)) n) := by
  rw [foldl_withPairs hchange _ g n (List.nodup_finRange 8)]
  simp only [List.mem_finRange, if_true, true_and]

/-! ### The end of SELF-TEST (R147 steps 3 and 4) -/

/-- In SELF-TEST a position in use with N above L has nothing left (R147 step 3). -/
def outOfCounters (x : KeyPosition) : Bool := holdsKey x && decide (x.limit < x.next)

theorem afterSpentCheck_eq (x : KeyPosition) :
    afterSpentCheck x = if outOfCounters x then turnedSpent x else x := by
  simp [afterSpentCheck, outOfCounters, holdsKey]

/-- A READY position becomes ACTIVE (R135). -/
def promotedWhenReady (x : KeyPosition) : KeyPosition :=
  if x.state = .ready then { x with state := .active } else x

/-- The SPENT test of the first of two partners (R134, R135). -/
def spentFirst (x y : KeyPosition) : KeyPosition × KeyPosition :=
  if outOfCounters x then
    (turnedSpent x, if x.state = .active then promotedWhenReady y else y)
  else (x, y)

/-- That test raises NO_KEY for an enabled window. -/
abbrev RaisesFirst (x y : KeyPosition) : Prop :=
  outOfCounters x = true ∧ x.state = .active ∧ y.state ≠ .ready

theorem usedUp_eq_outOfCounters {s : State} (hpools : ∀ q : Fin 16, s.pools[q] = [])
    (hidle : s.derivation.inFlight = none) (p : Fin 16) :
    usedUp s p = outOfCounters s.store.positions[p] := by
  have hflight : refillInFlight s p = false := by rw [refillInFlight, hidle]
  simp only [usedUp, outOfCounters, hpools p, hflight, List.isEmpty_nil, Bool.not_false,
    Bool.and_true]

section
variable (s : State) (g : Fin 8 → KeyPosition × KeyPosition) (n : BitVec 7) (w : Fin 8)

theorem promoted_positionA :
    promoted (positionA w) (ofPairs g) =
      ofPairs (Function.update g w ((g w).1, promotedWhenReady (g w).2)) := by
  simp only [promoted, (ownerWindow_positions w).2.2.1, ofPairs_positionB, promotedWhenReady]
  split
  · exact ofPairs_set_positionB g w _
  · rw [Prod.mk.eta, Function.update_eq_self]

theorem promoted_positionB :
    promoted (positionB w) (ofPairs g) =
      ofPairs (Function.update g w (promotedWhenReady (g w).1, (g w).2)) := by
  simp only [promoted, (ownerWindow_positions w).2.2.2, ofPairs_positionA, promotedWhenReady]
  split
  · exact ofPairs_set_positionA g w _
  · rw [Prod.mk.eta, Function.update_eq_self]

theorem spentAt_positionA :
    spentAt (withPairs s g n) (positionA w) =
      withPairs s
        (Function.update g w
          (turnedSpent (g w).1,
            if (g w).1.state = .active then promotedWhenReady (g w).2 else (g w).2))
        (withNoKey
          ((g w).1.state = .active ∧ (g w).2.state ≠ .ready ∧ windowEnabled s w = true) n) := by
  have henabled : windowEnabled (withPairs s g n) w = windowEnabled s w := rfl
  obtain ⟨howner, -, hpartner, -⟩ := ownerWindow_positions w
  simp only [spentAt, withPairs, noticesAfterRollover, howner, hpartner, ofPairs_positionA,
    ofPairs_positionB, ofPairs_set_positionA, promoted_positionA, Function.update_self,
    Function.update_idem, withNoKey]
  by_cases ha : (g w).1.state = .active <;> simp only [ha, if_true, if_false, true_and, false_and]
  all_goals rfl

theorem spentAt_positionB :
    spentAt (withPairs s g n) (positionB w) =
      withPairs s
        (Function.update g w
          (if (g w).2.state = .active then promotedWhenReady (g w).1 else (g w).1,
            turnedSpent (g w).2))
        (withNoKey
          ((g w).2.state = .active ∧ (g w).1.state ≠ .ready ∧ windowEnabled s w = true) n) := by
  obtain ⟨-, howner, -, hpartner⟩ := ownerWindow_positions w
  simp only [spentAt, withPairs, noticesAfterRollover, howner, hpartner, ofPairs_positionA,
    ofPairs_positionB, ofPairs_set_positionB, promoted_positionB, Function.update_self,
    Function.update_idem, withNoKey]
  by_cases ha : (g w).2.state = .active <;> simp only [ha, if_true, if_false, true_and, false_and]
  all_goals rfl

variable {s} (hpools : ∀ q : Fin 16, s.pools[q] = []) (hidle : s.derivation.inFlight = none)
include hpools hidle

theorem usedUp_withPairs (p : Fin 16) :
    usedUp (withPairs s g n) p = outOfCounters (ofPairs g)[p] :=
  usedUp_eq_outOfCounters (s := withPairs s g n) hpools hidle p

theorem spentTest_positionA :
    spentTest (positionA w) (withPairs s g n) =
      withPairs s (Function.update g w (spentFirst (g w).1 (g w).2))
        (withNoKey (RaisesFirst (g w).1 (g w).2 ∧ windowEnabled s w = true) n) := by
  rw [spentTest_eq, usedUp_withPairs g n hpools hidle, ofPairs_positionA, spentAt_positionA]
  by_cases hout : outOfCounters (g w).1 = true
  · rw [if_pos hout, spentFirst, if_pos hout]
    exact congrArg _ (withNoKey_congr (by simp only [hout, true_and, and_assoc]) n)
  · simp [spentFirst, RaisesFirst, hout, withNoKey]

theorem spentTest_positionB :
    spentTest (positionB w) (withPairs s g n) =
      withPairs s (Function.update g w (spentFirst (g w).2 (g w).1).swap)
        (withNoKey (RaisesFirst (g w).2 (g w).1 ∧ windowEnabled s w = true) n) := by
  rw [spentTest_eq, usedUp_withPairs g n hpools hidle, ofPairs_positionB, spentAt_positionB]
  by_cases hout : outOfCounters (g w).2 = true
  · rw [if_pos hout, spentFirst, if_pos hout]
    exact congrArg _ (withNoKey_congr (by simp only [hout, true_and, and_assoc]) n)
  · simp [spentFirst, RaisesFirst, hout, withNoKey]

/-- Both SPENT tests of a window's pair, A's and then B's. -/
def spentBoth (x : KeyPosition × KeyPosition) : KeyPosition × KeyPosition :=
  (spentFirst (spentFirst x.1 x.2).2 (spentFirst x.1 x.2).1).swap

/-- One of them raises NO_KEY for an enabled window. -/
abbrev RaisesBoth (x : KeyPosition × KeyPosition) : Prop :=
  RaisesFirst (spentFirst x.1 x.2).2 (spentFirst x.1 x.2).1 ∨ RaisesFirst x.1 x.2

theorem spentTest_both :
    spentTest (positionB w) (spentTest (positionA w) (withPairs s g n)) =
      withPairs s (Function.update g w (spentBoth (g w)))
        (withNoKey (RaisesBoth (g w) ∧ windowEnabled s w = true) n) := by
  rw [spentTest_positionA g n w hpools hidle, spentTest_positionB _ _ w hpools hidle,
    withNoKey_withNoKey]
  simp only [Function.update_self, Function.update_idem]
  exact congrArg _ (withNoKey_congr or_and_right.symm n)

theorem spentTestAll_withPairs :
    spentTestAll (withPairs s g n) =
      withPairs s (fun w => spentBoth (g w))
        (withNoKey (∃ w, RaisesBoth (g w) ∧ windowEnabled s w = true) n) := by
  have horder : List.finRange 16 =
      (List.finRange 8).flatMap fun w => [positionA w, positionB w] := by decide
  rw [spentTestAll, horder, List.foldl_flatMap]
  simp only [List.foldl_cons, List.foldl_nil]
  exact foldl_withPairs_finRange
    (change := fun s w => spentTest (positionB w) (spentTest (positionA w) s))
    (f := fun _ => spentBoth) (r := fun w x => RaisesBoth x ∧ windowEnabled s w = true)
    (fun g n w => spentTest_both g n w hpools hidle) g n

end

/-- A window has neither an ACTIVE position nor a READY one to take its place. -/
abbrev LeftWithout (x : KeyPosition × KeyPosition) : Prop := ¬ InUse x.1 ∧ ¬ InUse x.2

theorem activePosition_withPairs (s : State) (g : Fin 8 → KeyPosition × KeyPosition)
    (n : BitVec 7) (w : Fin 8) :
    activePosition (withPairs s g n) w =
      if (g w).1.state = .active then some (positionA w)
      else if (g w).2.state = .active then some (positionB w) else none := by
  simp only [activePosition, withPairs, ofPairs_positionA, ofPairs_positionB]

theorem readyPosition_withPairs (s : State) (g : Fin 8 → KeyPosition × KeyPosition)
    (n : BitVec 7) (w : Fin 8) :
    readyPosition (withPairs s g n) w =
      if (g w).1.state = .ready then some (positionA w)
      else if (g w).2.state = .ready then some (positionB w) else none := by
  simp only [readyPosition, withPairs, ofPairs_positionA, ofPairs_positionB]

theorem setPosition_positionA (s : State) (g : Fin 8 → KeyPosition × KeyPosition) (n : BitVec 7)
    (w : Fin 8) (x : KeyPosition) :
    setPosition (positionA w) x (withPairs s g n) =
      withPairs s (Function.update g w (x, (g w).2)) n := by
  simp only [setPosition, withPairs, ofPairs_set_positionA]

theorem setPosition_positionB (s : State) (g : Fin 8 → KeyPosition × KeyPosition) (n : BitVec 7)
    (w : Fin 8) (x : KeyPosition) :
    setPosition (positionB w) x (withPairs s g n) =
      withPairs s (Function.update g w ((g w).1, x)) n := by
  simp only [setPosition, withPairs, ofPairs_set_positionB]

/-- R147 step 4 for one window, by what its pair holds. -/
theorem settleWindow_withPairs (s : State) (g : Fin 8 → KeyPosition × KeyPosition) (n : BitVec 7)
    (w : Fin 8) :
    settleWindow (withPairs s g n) w =
      withPairs s (Function.update g w (settledPair (g w).1 (g w).2))
        (withNoKey (LeftWithout (g w) ∧ windowEnabled s w = true) n) := by
  have hsame : Function.update g w ((g w).1, (g w).2) = g := by
    rw [Prod.mk.eta, Function.update_eq_self]
  have hpA : (withPairs s g n).store.positions[positionA w] = (g w).1 := ofPairs_positionA g w
  have hpB : (withPairs s g n).store.positions[positionB w] = (g w).2 := ofPairs_positionB g w
  have hkeep : ∀ x : KeyPosition × KeyPosition, InUse x.1 ∨ InUse x.2 →
      withNoKey (LeftWithout x ∧ windowEnabled s w = true) n = n :=
    fun x hx => if_neg fun h => hx.elim h.1.1 h.1.2
  rw [settleWindow, activePosition_withPairs, readyPosition_withPairs, settledPair]
  by_cases hA : (g w).1.state = .active
  · simp only [if_pos hA, if_pos (Or.inl hA), hkeep _ (.inl (.inr hA)), hsame]
  by_cases hB : (g w).2.state = .active
  · simp only [if_neg hA, if_pos hB, if_pos (Or.inr hB), hkeep _ (.inr (.inr hB)), hsame]
  simp only [if_neg hA, if_neg hB, if_neg (not_or.2 ⟨hA, hB⟩)]
  by_cases hrA : (g w).1.state = .ready
  · simp only [if_pos hrA, hkeep _ (.inl (.inl hrA)), hpA, setPosition_positionA]
  by_cases hrB : (g w).2.state = .ready
  · simp only [if_neg hrA, if_pos hrB, hkeep _ (.inr (.inl hrB)), hpB, setPosition_positionB]
  · have hleft : LeftWithout (g w) := ⟨fun h => h.elim hrA hA, fun h => h.elim hrB hB⟩
    have henabled : windowEnabled (withPairs s g n) w = windowEnabled s w := rfl
    rw [withNoKey_congr (and_iff_right hleft)]
    simp only [if_neg hrA, if_neg hrB, hsame, raiseNoticeWhen, henabled, withNoKey]
    cases windowEnabled s w <;> rfl

/-- The tests made in turn, with the promotions that they bring about, leave the window the pair that it
has when both are tested alone (R147). -/
theorem settledPair_spentBoth {a b : KeyPosition} (h : ¬ (a.state = .active ∧ b.state = .active)) :
    settledPair (spentBoth (a, b)).1 (spentBoth (a, b)).2 =
      settledPair (afterSpentCheck a) (afterSpentCheck b) := by
  simp only [spentBoth, spentFirst, afterSpentCheck_eq, settledPair, promotedWhenReady,
    outOfCounters, holdsKey, turnedSpent]
  grind

/-- A test that raises NO_KEY leaves the window without a key, for which NO_KEY is raised again. -/
theorem leftWithout_of_raisesBoth {a b : KeyPosition}
    (h : ¬ (a.state = .active ∧ b.state = .active)) (hr : RaisesBoth (a, b)) :
    LeftWithout (spentBoth (a, b)) := by
  simp only [spentBoth, spentFirst, RaisesBoth, RaisesFirst, InUse, LeftWithout,
    promotedWhenReady, outOfCounters, holdsKey, turnedSpent] at *
  grind

theorem leftWithout_iff (a b : KeyPosition) :
    LeftWithout (a, b) ↔
      (settledPair a b).1.state ≠ .active ∧ (settledPair a b).2.state ≠ .active := by
  simp only [LeftWithout, InUse, settledPair]
  grind

theorem settledPositions_eq (s : State) :
    settledPositions s =
      ofPairs fun w =>
        settledPair (afterSpentCheck s.store.positions[positionA w])
          (afterSpentCheck s.store.positions[positionB w]) := rfl

/-- The end of SELF-TEST, as the statements write it out (R147, R159, R160). -/
theorem enterActive_eq {s : State} (outcome : StoreOutcome)
    (hpools : ∀ q : Fin 16, s.pools[q] = []) (hidle : s.derivation.inFlight = none)
    (hone : ∀ w : Fin 8, ¬ (s.store.positions[positionA w].state = .active ∧
      s.store.positions[positionB w].state = .active)) :
    enterActive outcome s = enteredActive s outcome := by
  have htests := spentTestAll_withPairs (pairOf s.store.positions) s.part.notices hpools hidle
  have hsettle := foldl_withPairs_finRange (s := s) (change := settleWindow)
    (f := fun _ x => settledPair x.1 x.2) (r := fun w x => LeftWithout x ∧ windowEnabled s w = true)
    (settleWindow_withPairs s)
  rw [withPairs_self] at htests
  have hpairs : ∀ w, settledPair (spentBoth (pairOf s.store.positions w)).1
      (spentBoth (pairOf s.store.positions w)).2 = _ := fun w => settledPair_spentBoth (hone w)
  have hleft : ∀ w : Fin 8, (settledPositions s)[positionA w].state ≠ .active ∧
      (settledPositions s)[positionB w].state ≠ .active ↔
        LeftWithout (spentBoth (pairOf s.store.positions w)) := by
    intro w
    rw [settledPositions_eq, ofPairs_positionA, ofPairs_positionB, ← hpairs w]
    exact (leftWithout_iff _ _).symm
  have hnotices : ((∃ w, LeftWithout (spentBoth (pairOf s.store.positions w)) ∧
        windowEnabled s w = true) ∨
      ∃ w, RaisesBoth (pairOf s.store.positions w) ∧ windowEnabled s w = true) ↔
      ∃ w : Fin 8, windowEnabled s w = true ∧
        (settledPositions s)[positionA w].state ≠ .active ∧
        (settledPositions s)[positionB w].state ≠ .active := by
    simp only [hleft]
    constructor
    · rintro (⟨w, hw, he⟩ | ⟨w, hw, he⟩)
      · exact ⟨w, he, hw⟩
      · exact ⟨w, he, leftWithout_of_raisesBoth (hone w) hw⟩
    · exact fun ⟨w, he, hw⟩ => .inl ⟨w, hw, he⟩
  simp only [enterActive, htests, hsettle, hpairs, withNoKey_withNoKey, withNoKey_congr hnotices]
  rfl

/-! ### The known-answer test completes (R148, R159, R160, R161) -/

section
variable {s : State}

theorem exec_knownAnswerTestComplete (hs : s.part.state = .selfTest)
    (hf : s.derivation.inFlight = some .knownAnswer) (passed : Bool) :
    exec (.knownAnswerTestComplete passed) s =
      .next
        (if !passed then enterFault { s with derivation.inFlight := none }
        else if s.store.marker then checkFrom 0 { s with derivation.inFlight := none }
        else enterActive .lost (loseStore { s with derivation.inFlight := none })) := by
  show execKnownAnswerTestComplete passed s = _
  rw [execKnownAnswerTestComplete, if_pos ⟨hs, hf⟩]

/-- The next position to check is the first in use from the number on (R159). -/
theorem nextToCheck_eq_some {start : Nat} {p : Fin 16} (hp : start ≤ p.val)
    (hu : InUse s.store.positions[p])
    (hfirst : ∀ q : Fin 16, start ≤ q.val → q < p → ¬ InUse s.store.positions[q]) :
    nextToCheck s start = some p :=
  find?_eq_some_of_pairwise (List.pairwise_lt_finRange 16) (List.mem_finRange p)
    (by simp only [hp, decide_true, Bool.true_and, (holdsKey_iff _).2 hu]) fun q _ hqp hq => by
      rw [Bool.and_eq_true, decide_eq_true_eq, holdsKey_iff] at hq
      exact hfirst q hq.1 hqp hq.2

theorem nextToCheck_eq_none {start : Nat}
    (h : ∀ p : Fin 16, start ≤ p.val → ¬ InUse s.store.positions[p]) :
    nextToCheck s start = none :=
  List.find?_eq_none.2 fun p _ hp => by
    rw [Bool.and_eq_true, decide_eq_true_eq, holdsKey_iff] at hp
    exact h p hp.1 hp.2

theorem checkFrom_some {start : Nat} {p : Fin 16} {key : Block}
    (h : nextToCheck s start = some p) (hkey : s.store.positions[p].baseKey = some key) :
    checkFrom start s = { s with derivation.inFlight := some (.recompute p (some key)) } := by
  simp only [checkFrom, h, hkey, Option.getD_some]

theorem checkFrom_none {start : Nat} (h : nextToCheck s start = none) :
    checkFrom start s =
      enterActive (if s.part.mismatch then .positionsErased else .held) s := by
  simp only [checkFrom, h, storeOutcomeOf]

end

/-- The freeze causes after a loss of the store: TAMPER on the enabled windows, or on none (R160). -/
theorem loseStore_eq (s : State) :
    loseStore s =
      { s with
        store :=
          { marker := true, latch := s.inputs.tamperLine || s.part.tamperTaken
            wrapSeq := Vector.replicate 8 0#32
            positions := Vector.replicate 16 Config.blankPosition }
        pools := Vector.replicate 16 []
        windows :=
          Vector.ofFn fun w : Fin 8 =>
            { s.windows[w] with
              freeze :=
                { s.windows[w].freeze with
                  tamper :=
                    (s.inputs.tamperLine || s.part.tamperTaken) &&
                      (s.windows[w].freeze.tamper || windowEnabled s w) } }
        part.notices := s.part.notices ||| 0x02#7 } := by
  unfold loseStore
  cases s.inputs.tamperLine || s.part.tamperTaken <;> rfl

theorem ofFn_getElem_fin {α : Type} {n : Nat} (f : Fin n → α) (p : Fin n) :
    (Vector.ofFn f)[p] = f p := Vector.getElem_ofFn _

theorem replicate_getElem_fin {α : Type} {n : Nat} (x : α) (p : Fin n) :
    (Vector.replicate n x)[p] = x := Vector.getElem_replicate _

theorem settledPositions_of_blank {s : State}
    (h : s.store.positions = Vector.replicate 16 Config.blankPosition) :
    settledPositions s = Vector.replicate 16 Config.blankPosition := by
  have hblank : ∀ p : Fin 16, s.store.positions[p] = Config.blankPosition :=
    fun p => by rw [h, replicate_getElem_fin]
  have hpair : settledPair (afterSpentCheck Config.blankPosition)
      (afterSpentCheck Config.blankPosition) = (Config.blankPosition, Config.blankPosition) := rfl
  rw [settledPositions_eq]
  refine positions_ext (fun w => ?_) fun w => ?_
  · rw [ofPairs_positionA, hblank, hblank, hpair, replicate_getElem_fin]
  · rw [ofPairs_positionB, hblank, hblank, hpair, replicate_getElem_fin]

theorem takeUpNext_of_blank {s : State} (hs : s.part.state = .active)
    (h : s.store.positions = Vector.replicate 16 Config.blankPosition)
    (hidle : s.derivation.inFlight = none) (hpending : s.derivation.pendingLoad = none) :
    takeUpNext s = s := by
  rw [takeUpNext_no_pending hs hidle hpending, nextRefill_eq_none]
  · rfl
  · intro p hp
    have hu : InUse s.store.positions[p] := hp.1
    rw [h, replicate_getElem_fin] at hu
    exact hu.elim nofun nofun

/-- A store without a key gives the end of SELF-TEST nothing to settle and the unit nothing to do. -/
theorem enteredActive_of_blank {s : State} (outcome : StoreOutcome)
    (h : s.store.positions = Vector.replicate 16 Config.blankPosition)
    (hidle : s.derivation.inFlight = none) (hpending : s.derivation.pendingLoad = none) :
    enteredActive s outcome =
      { s with
        part :=
          { s.part with
            state := .active
            storeOutcome := outcome
            notices := withNoKey (∃ w : Fin 8, windowEnabled s w = true) s.part.notices } } := by
  have hsettled := settledPositions_of_blank h
  have hnone : (∃ w : Fin 8, windowEnabled s w = true ∧
      (settledPositions s)[positionA w].state ≠ .active ∧
      (settledPositions s)[positionB w].state ≠ .active) ↔
        ∃ w : Fin 8, windowEnabled s w = true := by
    refine exists_congr fun w => and_iff_left ?_
    rw [hsettled, replicate_getElem_fin, replicate_getElem_fin]
    exact ⟨nofun, nofun⟩
  rw [enteredActive, takeUpNext_of_blank]
  case h => exact hsettled
  case hidle => exact hidle
  case hpending => exact hpending
  case hs => rfl
  simp only [hnone]
  rw [hsettled, ← h]
  rfl

theorem replicate_eq_of_forall_nil {xs : Vector (List PoolEntry) 16} (h : ∀ p : Fin 16, xs[p] = []) :
    Vector.replicate 16 [] = xs :=
  Vector.ext fun i hi => (Vector.getElem_replicate hi).trans (h ⟨i, hi⟩).symm

theorem windowEnabled_loseStore (s : State) (w : Fin 8) :
    windowEnabled (loseStore s) w = windowEnabled s w := by
  have hrecord : (loseStore s).windows[w].record = s.windows[w].record := by
    rw [loseStore_eq]
    simp only [ofFn_getElem_fin]
  rw [windowEnabled, windowEnabled, hrecord]

/-- SELF-TEST ends with a lost store (R160). -/
theorem enterActive_loseStore {s : State} (hidle : s.derivation.inFlight = none)
    (hpending : s.derivation.pendingLoad = none) :
    enterActive .lost (loseStore s) =
      { loseStore s with
        part :=
          { (loseStore s).part with
            state := .active
            storeOutcome := .lost
            notices :=
              withNoKey (∃ w : Fin 8, windowEnabled s w = true) (loseStore s).part.notices } } := by
  have hd : (loseStore s).derivation = s.derivation := by rw [loseStore_eq]
  have hpositions : (loseStore s).store.positions = Vector.replicate 16 Config.blankPosition := by
    rw [loseStore_eq]
  have hpools : ∀ p : Fin 16, (loseStore s).pools[p] = [] := fun p => by
    rw [loseStore_eq]
    exact replicate_getElem_fin [] p
  rw [enterActive_eq .lost hpools (by rw [hd, hidle]),
    enteredActive_of_blank .lost hpositions (by rw [hd, hidle]) (by rw [hd, hpending])]
  · simp only [windowEnabled_loseStore]
  · intro w h
    rw [hpositions, replicate_getElem_fin] at h
    exact nomatch h.1

theorem withNoKey_store (p : Prop) [Decidable p] (n : BitVec 7) :
    withNoKey p (n ||| 0x02#7) = n ||| if p then 0x22#7 else 0x02#7 := by
  unfold withNoKey
  split
  · rw [BitVec.or_assoc]
    rfl
  · rfl

/-- Settles O48: the outcome of the test, then the marker; a lost store leaves no key to settle. -/
theorem knownAnswerTestCompletes : Obligations.KnownAnswerTestCompletes := by
  intro s hs hf hpending hpools hone idleUnit
  refine ⟨exec_knownAnswerTestComplete hs hf false, fun hm => ?_,
    fun hm => ⟨fun p key hu hfirst hkey => ?_, fun hnone => ?_⟩⟩
  · intro latch
    rw [exec_knownAnswerTestComplete hs hf, if_neg (by simp), hm, if_neg Bool.false_ne_true,
      enterActive_loseStore (s := idleUnit) rfl hpending, loseStore_eq]
    simp only [withNoKey_store, replicate_eq_of_forall_nil hpools]
    rfl
  · rw [exec_knownAnswerTestComplete hs hf, if_neg (by simp), if_pos hm,
      checkFrom_some (s := idleUnit)
        (nextToCheck_eq_some (Nat.zero_le _) hu fun q _ hq => hfirst q hq) hkey]
  · rw [exec_knownAnswerTestComplete hs hf, if_neg (by simp), if_pos hm,
      checkFrom_none (s := idleUnit) (nextToCheck_eq_none fun p _ => hnone p),
      enterActive_eq (s := idleUnit) _ hpools rfl hone]

/-! ### A recomputation completes (R119, R147, R159) -/

theorem exec_checkValueRecomputationComplete {s : State} {p : Fin 16} {key : Option Block}
    (hs : s.part.state = .selfTest) (hf : s.derivation.inFlight = some (.recompute p key)) :
    exec .checkValueRecomputationComplete s =
      .next
        (checkFrom (p.val + 1)
          (judgeRecomputation p key { s with derivation.inFlight := none })) := by
  show execCheckValueRecomputationComplete s = _
  rw [execCheckValueRecomputationComplete, hs, hf]

theorem judgeRecomputation_kept {s : State} {p : Fin 16} {key : Option Block}
    (h : ¬ ∃ k, key = some k ∧
      some ((encipher k 0#128).extractLsb' 104 24) ≠ s.store.positions[p].check) :
    judgeRecomputation p key s = s := by
  obtain _ | k := key
  · rfl
  · exact if_pos (not_not.1 fun hne => h ⟨k, rfl, hne⟩)

theorem judgeRecomputation_mismatch {s : State} {p : Fin 16} {key : Option Block}
    (hpool : s.pools[p] = [])
    (h : ∃ k, key = some k ∧
      some ((encipher k 0#128).extractLsb' 104 24) ≠ s.store.positions[p].check) :
    judgeRecomputation p key s =
      { s with
        store.positions := s.store.positions.set p (takenEmpty s.store.positions[p])
        part := { s.part with notices := s.part.notices ||| 0x02#7, mismatch := true } } := by
  obtain ⟨k, rfl, hne⟩ := h
  have hpools : s.pools.set p [] = s.pools := by
    rw [← hpool]
    exact Vector.set_getElem_self _
  refine (if_neg hne).trans ?_
  rw [erasePosition, setPool]
  simp only [setPosition_pools, hpools]
  rfl

/-- Whatever the result, nothing is judged but the position that was recomputed. -/
theorem judgeRecomputation_keeps {s : State} {p : Fin 16} (key : Option Block)
    (hpool : s.pools[p] = []) :
    (judgeRecomputation p key s).pools = s.pools ∧
      (judgeRecomputation p key s).derivation = s.derivation ∧
      ∀ q : Fin 16, (judgeRecomputation p key s).store.positions[q] = s.store.positions[q] ∨
        q = p ∧ (judgeRecomputation p key s).store.positions[q].state = .empty := by
  by_cases h : ∃ k, key = some k ∧
      some ((encipher k 0#128).extractLsb' 104 24) ≠ s.store.positions[p].check
  · rw [judgeRecomputation_mismatch hpool h]
    refine ⟨rfl, rfl, fun q => ?_⟩
    rw [getElem_set_fin]
    by_cases hq : q = p
    · rw [if_pos hq]
      exact .inr ⟨hq, rfl⟩
    · rw [if_neg hq]
      exact .inl rfl
  · rw [judgeRecomputation_kept h]
    exact ⟨rfl, rfl, fun q => .inl rfl⟩

/-- Settles O49: the judged state is that of the recomputation's result, and the search goes on. -/
theorem recomputationCompletes : Obligations.RecomputationCompletes := by
  intro s p key hs hf hpending hpools hone kept mismatched
  obtain ⟨hpools', hunit, hpositions⟩ :=
    judgeRecomputation_keeps (s := kept) (p := p) key (hpools p)
  have hlater : ∀ q : Fin 16, p < q →
      (judgeRecomputation p key kept).store.positions[q] = s.store.positions[q] :=
    fun q hpq => (hpositions q).resolve_right fun h => ne_of_gt hpq h.1
  refine ⟨judgeRecomputation p key kept, fun h => judgeRecomputation_kept (s := kept) h,
    fun h => judgeRecomputation_mismatch (s := kept) (hpools p) h,
    fun q k hpq hu hfirst hkey => ?_, fun hnone => ?_⟩
  · rw [exec_checkValueRecomputationComplete hs hf, checkFrom_some (p := q) (key := k)]
    · refine nextToCheck_eq_some hpq (by rwa [hlater q hpq]) fun r hpr hrq => ?_
      rw [hlater r hpr]
      exact hfirst r hpr hrq
    · rwa [hlater q hpq]
  · have hactive : ∀ q : Fin 16,
        (judgeRecomputation p key kept).store.positions[q].state = .active →
          s.store.positions[q].state = .active := by
      intro q hq
      obtain h | ⟨-, h⟩ := hpositions q
      · rwa [h] at hq
      · exact nomatch h.symm.trans hq
    rw [exec_checkValueRecomputationComplete hs hf, checkFrom_none,
      enterActive_eq _ (fun q => by rw [hpools']; exact hpools q) (by rw [hunit])
        fun w h => hone w ⟨hactive _ h.1, hactive _ h.2⟩]
    refine nextToCheck_eq_none fun q hpq => ?_
    rw [hlater q hpq]
    exact hnone q hpq

end Sys2Proof.Machine
end

section
/-! SUPPORT. What a command can do, said once for the invariants (sections 8 and 10): two states that
agree in everything the invariants read, and the commands after which nothing else is the case. -/

namespace Sys2Proof.Machine

/-! ### States that agree in what the invariants read -/

/-- The states agree in what the invariants read outside the key table, the derivation unit and the
link. The tracker is read in RESET and LOADING alone (R21). -/
structure Beside (s t : State) : Prop where
  state : t.part.state = s.part.state
  records : ∀ w : Fin 8, t.windows[w].record = s.windows[w].record
  tamper : ∀ w : Fin 8, t.windows[w].freeze.tamper = s.windows[w].freeze.tamper
  contexts : t.contexts = s.contexts
  expired : t.expired = s.expired
  time : t.time = s.time
  transportKey : t.transportKey = s.transportKey
  pending : t.pending = s.pending
  tracker : ¬ PastLoading s → s.tracker = State.reset.tracker → t.tracker = State.reset.tracker
  store : t.store = { s.store with positions := t.store.positions }

/-- The states agree in everything that the invariants read. -/
structure Alike (s t : State) : Prop extends Beside s t where
  positions : t.store.positions = s.store.positions
  pools : t.pools = s.pools
  derivation : t.derivation = s.derivation
  mark : t.link.loadInProgress = s.link.loadInProgress

section
variable {s t u : State}

theorem Beside.refl (s : State) : Beside s s :=
  ⟨rfl, fun _ => rfl, fun _ => rfl, rfl, rfl, rfl, rfl, rfl, fun _ h => h, rfl⟩

theorem Beside.pastLoading (h : Beside s t) : PastLoading t ↔ PastLoading s := by
  rw [PastLoading, PastLoading, h.state]

theorem Beside.holdsRecords (h : Beside s t) : HoldsRecords t ↔ HoldsRecords s := by
  rw [HoldsRecords, HoldsRecords, h.state]

theorem Beside.enabled (h : Beside s t) (w : Fin 8) : Enabled t w ↔ Enabled s w := by
  rw [Enabled, Enabled, h.records w]

theorem Beside.trans (h : Beside s t) (h' : Beside t u) : Beside s u where
  state := h'.state.trans h.state
  records w := (h'.records w).trans (h.records w)
  tamper w := (h'.tamper w).trans (h.tamper w)
  contexts := h'.contexts.trans h.contexts
  expired := h'.expired.trans h.expired
  time := h'.time.trans h.time
  transportKey := h'.transportKey.trans h.transportKey
  pending := h'.pending.trans h.pending
  tracker hp ht := h'.tracker (mt h.pastLoading.1 hp) (h.tracker hp ht)
  store := by rw [h'.store, h.store]

theorem Beside.latch (h : Beside s t) : t.store.latch = s.store.latch := by rw [h.store]

theorem Beside.marker (h : Beside s t) : t.store.marker = s.store.marker := by rw [h.store]

theorem Beside.wrapSeq (h : Beside s t) : t.store.wrapSeq = s.store.wrapSeq := by rw [h.store]

theorem Alike.refl (s : State) : Alike s s := ⟨Beside.refl s, rfl, rfl, rfl, rfl⟩

theorem Alike.trans (h : Alike s t) (h' : Alike t u) : Alike s u where
  toBeside := h.toBeside.trans h'.toBeside
  positions := h'.positions.trans h.positions
  pools := h'.pools.trans h.pools
  derivation := h'.derivation.trans h.derivation
  mark := h'.mark.trans h.mark

end

/-! ### Updates that the invariants do not read -/

/-- The tracker, the paths to and from the DRAM, the held answer, the notices, the loader, the lines
and the ports. -/
theorem alike_mk (s : State) {tr : Tracker} {wp : WritePath} {rd : List ReadDesc}
    {pt : PartController} {ld : ImageLoader} {lk : Link} {inp : Inputs} {po : Ports}
    (hstate : pt.state = s.part.state) (hmark : lk.loadInProgress = s.link.loadInProgress)
    (htracker : ¬ PastLoading s → s.tracker = State.reset.tracker → tr = State.reset.tracker) :
    Alike s
      { s with
        tracker := tr, writePath := wp, reads := rd, part := pt, loader := ld, link := lk
        inputs := inp, ports := po } :=
  ⟨⟨hstate, fun _ => rfl, fun _ => rfl, rfl, rfl, rfl, rfl, rfl, htracker, rfl⟩, rfl, rfl, rfl, hmark⟩

theorem alike_raiseNotice (c : NoticeCause) (s : State) : Alike s (raiseNotice c s) :=
  alike_mk s rfl rfl fun _ h => h

theorem alike_raiseNoticeWhen (b : Bool) (c : NoticeCause) (s : State) :
    Alike s (raiseNoticeWhen b c s) := by
  unfold raiseNoticeWhen
  split
  · exact alike_raiseNotice c s
  · exact Alike.refl s

theorem alike_answer (code : AnswerCode) (echo : Byte) (s : State) :
    Alike s (answer code echo s) := alike_mk s rfl rfl fun _ h => h

theorem alike_forward (b : WireBurst) (s : State) : Alike s (forward b s) :=
  alike_mk s rfl rfl fun _ h => h

/-- A window's counts, last blank cause and MANAGEMENT freeze cause are not read. -/
theorem alike_setWindow {s : State} {w : Fin 8} {x : Window}
    (hrecord : x.record = s.windows[w].record)
    (htamper : x.freeze.tamper = s.windows[w].freeze.tamper) : Alike s (setWindow w x s) := by
  have hget : ∀ v : Fin 8, (setWindow w x s).windows[v] = if v = w then x else s.windows[v] :=
    fun v => getElem_set_fin s.windows w v x
  refine ⟨⟨rfl, fun v => ?_, fun v => ?_, rfl, rfl, rfl, rfl, rfl, fun _ h => h, rfl⟩, rfl, rfl, rfl,
    rfl⟩ <;> rw [hget] <;> split
  · next h => rw [hrecord, h]
  · rfl
  · next h => rw [htamper, h]
  · rfl

theorem alike_countBlank (w : Fin 8) (cause : BlankCause) (s : State) :
    Alike s (countBlank w cause s) :=
  ((alike_setWindow (x := { s.windows[w] with
      blanked := satInc s.windows[w].blanked, lastBlank := some cause }) rfl rfl).trans
    (alike_raiseNotice _ _)).trans (alike_raiseNoticeWhen _ _ _)

theorem alike_refuseBurst (d : BurstDesc) (w : Fin 8) (cause : BlankCause) (s : State) :
    Alike s (refuseBurst d w cause s) :=
  (alike_countBlank w cause s).trans (alike_forward _ _)

theorem alike_sendTrailer (d : BurstDesc) (t : Trailer) (s : State) :
    Alike s (sendTrailer d t s) :=
  (alike_setWindow (x := { s.windows[t.window] with
      outcomes := s.windows[t.window].outcomes.bump t.state }) rfl rfl).trans (alike_forward _ _)

/-! ### The commands of the channel (R1, R21) -/

theorem untakenOf_tracker (c : Instr) (s : State) : (untakenOf c s).tracker = s.tracker := by
  cases c <;> rfl

theorem alike_of_channel (c : Instr) (ok : Bool) (s : State) :
    Alike s (channelCommand c ok (takenOf c) (untakenOf c) s) := by
  rw [channelCommand_reaches (takenOf_reaches c) (untakenOf_reaches c) s]
  refine alike_mk s rfl rfl fun hp ht => ?_
  rw [channelCommand_untaken _ _ _ _ _ fun h => hp h.1, untakenOf_tracker]
  exact ht

/-! ### Frames of the management link (R174, R177, R178) -/

section
variable {code : Byte} {s : State}

/-- A frame that is not carried out changes the held answer at most. -/
theorem alike_frameEnds_not_free {carry : State → State} (h : ¬ LinkFree s) :
    Alike s (frameEnds code carry s) := by
  by_cases hr : s.part.state ≠ .reset ∧ s.inputs.clockRunning = true
  · rw [frameEnds_busy code carry s hr.1 hr.2 (by_contra fun hm => h ⟨hr.1, hr.2, by simpa using hm⟩)]
    exact alike_mk s rfl rfl fun _ h => h
  · have hout : s.part.state = .reset ∨ s.inputs.clockRunning = false := by
      rw [not_and_or, not_not, Bool.not_eq_true] at hr
      exact hr
    rw [frameEnds_unanswered code carry s hout]
    exact Alike.refl s

theorem alike_frameReceived (s : State) : Alike s { s with link.frame := [] } :=
  alike_mk s rfl rfl fun _ h => h

theorem alike_frameEnds {carry : State → State} (h : ∀ u, Alike u (carry u)) :
    Alike s (frameEnds code carry s) := by
  by_cases hl : LinkFree s
  · rw [frameEnds_free code carry s hl]
    exact (alike_frameReceived s).trans (h _)
  · exact alike_frameEnds_not_free hl

theorem alike_whenPermitted {permitted : PartState → Bool} {carry : State → State}
    (h : ∀ u, Alike u (carry u)) (u : State) : Alike u (whenPermitted permitted code carry u) := by
  unfold whenPermitted
  split
  · exact h u
  · exact alike_answer _ _ u

theorem alike_onWindow {w : Byte} {carry : Fin 8 → State → State}
    (h : ∀ v u, Alike u (carry v u)) (u : State) : Alike u (onWindow w code carry u) := by
  unfold onWindow
  split
  · exact h _ u
  · exact alike_answer _ _ u

theorem alike_onPosition {p : Byte} {carry : Fin 16 → State → State}
    (h : ∀ q u, Alike u (carry q u)) (u : State) : Alike u (onPosition p code carry u) := by
  unfold onPosition
  split
  · exact h _ u
  · exact alike_answer _ _ u

theorem alike_unlessDisabled {w : Fin 8} {carry : State → State} (h : ∀ u, Alike u (carry u))
    (u : State) : Alike u (unlessDisabled w code carry u) := by
  unfold unlessDisabled
  split
  · exact alike_answer _ _ u
  · exact h u

theorem alike_answerData (echo : Byte) (data : List Byte) (s : State) :
    Alike s (answerData echo data s) := alike_mk s rfl rfl fun _ h => h

theorem alike_setManagement (w : Fin 8) (present : Bool) (s : State) :
    Alike s (answer .ok code (setManagement w present s)) :=
  (alike_setWindow (x := { s.windows[w] with
      freeze := { s.windows[w].freeze with management := present } }) rfl rfl).trans
    (alike_answer _ _ _)

end

/-! ### The quiet commands -/

/-- The commands that change nothing the invariants read, in any state. -/
inductive Quiet : Instr → Prop
  | channel {c ok} : channelParity c = some ok → Quiet c
  | readDataBurst beats : Quiet (.readDataBurst beats)
  | dramAlertAssertion : Quiet .dramAlertAssertion
  | dramAlertDeassertion : Quiet .dramAlertDeassertion
  | checkFailurePulseEnd : Quiet .checkFailurePulseEnd
  | channelResetRelease : Quiet .channelResetRelease
  | tamperLineInactive : Quiet .tamperLineInactive
  | status : Quiet .status
  | windowStatus w : Quiet (.windowStatus w)
  | keyStatus p : Quiet (.keyStatus p)
  | freeze w : Quiet (.freeze w)
  | thaw w : Quiet (.thaw w)
  | noticeAck causes : Quiet (.noticeAck causes)
  | alertClear : Quiet .alertClear
  | badFrame bytes : Quiet (.badFrame bytes)
  | referenceClockStop : Quiet .referenceClockStop
  | referenceClockResume : Quiet .referenceClockResume

theorem alike_judgeAssertion (s : State) : Alike s (judgeAssertion s) := by
  unfold judgeAssertion
  split
  · exact Alike.refl s
  · split <;> exact alike_mk s rfl rfl fun _ h => h

theorem exec_quiet {c : Instr} (h : Quiet c) (s : State) : ∃ t, exec c s = .next t ∧ Alike s t := by
  have hlines : ∀ {inp : Inputs}, Alike s { s with inputs := inp } :=
    alike_mk s rfl rfl fun _ h => h
  cases h with
  | channel hc => exact ⟨_, exec_channel hc s, alike_of_channel c _ s⟩
  | readDataBurst beats =>
    refine ⟨_, rfl, ?_⟩
    cases hreads : s.reads <;> exact alike_mk s rfl rfl fun _ h => h
  | dramAlertAssertion =>
    refine ⟨_, rfl, ?_⟩
    split
    · exact Alike.refl s
    · exact hlines.trans (alike_judgeAssertion _)
  | dramAlertDeassertion =>
    refine ⟨_, rfl, ?_⟩
    split
    · exact alike_mk s rfl rfl fun _ h => by rw [h]; rfl
    · exact Alike.refl s
  | checkFailurePulseEnd => exact ⟨_, rfl, alike_mk s rfl rfl fun _ h => h⟩
  | channelResetRelease => exact ⟨_, rfl, hlines⟩
  | tamperLineInactive => exact ⟨_, rfl, hlines⟩
  | status => exact ⟨_, rfl, alike_frameEnds fun u => alike_answerData _ _ u⟩
  | windowStatus w =>
    exact ⟨_, rfl, alike_frameEnds (alike_onWindow fun _ => alike_whenPermitted fun u =>
      alike_answerData _ _ u)⟩
  | keyStatus p =>
    exact ⟨_, rfl, alike_frameEnds (alike_onPosition fun _ => alike_whenPermitted fun u =>
      alike_answerData _ _ u)⟩
  | freeze w =>
    exact ⟨_, rfl, alike_frameEnds (alike_onWindow fun v => alike_unlessDisabled
      (alike_whenPermitted fun u => alike_setManagement v true u))⟩
  | thaw w =>
    exact ⟨_, rfl, alike_frameEnds (alike_onWindow fun v => alike_unlessDisabled
      (alike_whenPermitted fun u => alike_setManagement v false u))⟩
  | noticeAck causes =>
    refine ⟨_, rfl, alike_frameEnds fun u => ?_⟩
    split
    · exact alike_answer _ _ u
    · exact alike_mk u rfl rfl fun _ h => h
  | alertClear => exact ⟨_, rfl, alike_frameEnds fun u => alike_mk u rfl rfl fun _ h => h⟩
  | badFrame bytes =>
    refine ⟨_, rfl, ?_⟩
    split
    · exact Alike.refl s
    · split
      · exact Alike.refl s
      · exact alike_frameEnds (alike_answer _ _)
  | referenceClockStop => exact ⟨_, rfl, hlines⟩
  | referenceClockResume => exact ⟨_, rfl, hlines⟩

end Sys2Proof.Machine
end

section
/-! SUPPORT. Write bursts (sections 2 to 5): bursts that are not captures, bursts blanked whole, the opening
of a context, and a trailer-line burst that closes one. -/

namespace Sys2Proof.Machine

/-! ### Bursts that are not captures (R22, R30) -/

theorem classify_of_not_captures {s : State} (hc : ¬ Captures s) (d : BurstDesc) :
    classify s d = .unchanged := by
  refine if_pos ?_
  unfold untrackedNow
  cases hstate : s.part.state <;> cases hreset : s.inputs.controllerReset <;>
    simp_all [PartState.afterLoading, HoldsRecords]

section
variable {s : State} {d : BurstDesc} (hc : Captures s)
include hc

theorem classify_untracked (hd : d.place = .absent .untracked) : classify s d = .unchanged := by
  simp only [classify, not_unchanged_of_captures hc, hd, Bool.false_eq_true, ↓reduceIte]

theorem classify_closedBank (hd : d.place = .absent .closedBank) : classify s d = .closedBank := by
  simp only [classify, not_unchanged_of_captures hc, hd, Bool.false_eq_true, ↓reduceIte]

theorem classify_at {line : Nat} (hd : d.place = .at line) :
    classify s d = treatmentOf (placeLine s line) := by
  simp only [classify, not_unchanged_of_captures hc, hd, Bool.false_eq_true, ↓reduceIte]

end

theorem classify_unchanged {s : State} {d : BurstDesc}
    (h : ¬ Captures s ∨ d.place = .absent .untracked ∨
      ∃ line, d.place = .at line ∧ placeLine s line = none) : classify s d = .unchanged := by
  by_cases hc : Captures s
  · obtain hn | hu | ⟨line, hd, hp⟩ := h
    · exact absurd hc hn
    · exact classify_untracked hc hu
    · rw [classify_at hc hd, hp, treatmentOf]
  · exact classify_of_not_captures hc d

/-- Settles O21: the treatment is the model's own classification, and taking the description off the
queue moves nothing that it reads. -/
theorem burstsThatAreNotCaptures : Obligations.BurstsThatAreNotCaptures := by
  intro burst d rest s ha
  rw [exec_writeDataBurst_described ha, handleWriteBurst]
  refine ⟨fun h => ?_, fun hc hd => ?_⟩
  · rw [classify_unchanged (s := { s with writePath.awaiting := rest }) h]
    rfl
  · rw [classify_closedBank (s := { s with writePath.awaiting := rest }) hc hd,
      ← composedBurst_zeroBeats]
    rfl

/-! ### Bursts blanked whole (R31, R53) -/

theorem refuseBurst_eq (d : BurstDesc) (rest : List BurstDesc) (w : Fin 8) (cause : BlankCause)
    (s : State) :
    refuseBurst d w cause { s with writePath.awaiting := rest } =
      blankedFor s d rest w cause (if cause = .noKey then 0x60#7 else 0x40#7) := by
  rw [refuseBurst, countBlank_eq, blankBurst, composedBurst_zeroBeats]
  rfl

/-- Settles O23: outside ACTIVE a body burst and a trailer-line burst meet the same refusal. -/
theorem capturesBlankedOutsideActive : Obligations.CapturesBlankedOutsideActive := by
  intro burst d rest pl s h hs
  rw [exec_writeDataBurst_passing h]
  cases pl.isTrailer <;>
    simp only [bodyBurst, trailerBurst, ne_eq, hs, not_false_eq_true, ↓reduceIte, refuseBurst_eq,
      reduceCtorEq, Bool.false_eq_true]

/-! ### The opening tests (R60, R61) -/

section
variable {s : State} {w : Fin 8}

theorem frozen_iff (f : FreezeSet) :
    f.frozen = true ↔ f.management = true ∨ f.tamper = true := by
  simp [FreezeSet.frozen]

theorem openingTests_frozen (hs : s.part.state = .active)
    (hf : s.windows[w].freeze.management = true ∨ s.windows[w].freeze.tamper = true) :
    openingTests s w = .error .frozen := by
  rw [openingTests, if_neg (not_not.2 hs), if_pos ((frozen_iff _).2 hf)]

theorem openingTests_noKey (hs : s.part.state = .active)
    (hf : s.windows[w].freeze = { management := false, tamper := false })
    (hn : activePosition s w = none) : openingTests s w = .error .noKey := by
  rw [openingTests, if_neg (not_not.2 hs), hf, if_neg (by decide), hn]

theorem openingTests_starved {p : Fin 16} (hs : s.part.state = .active)
    (hf : s.windows[w].freeze = { management := false, tamper := false })
    (ha : activePosition s w = some p) (hp : s.pools[p] = []) :
    openingTests s w = .error .starved := by
  rw [openingTests, if_neg (not_not.2 hs), hf, if_neg (by decide), ha]
  simp only [hp]

theorem openingTests_ofHead {p : Fin 16} {e : PoolEntry} {tail : List PoolEntry}
    (hs : s.part.state = .active)
    (hf : s.windows[w].freeze = { management := false, tamper := false })
    (ha : activePosition s w = some p) (hp : s.pools[p] = e :: tail) :
    openingTests s w = if 32 ≤ s.contexts.length then .error .full else .ok (p, e) := by
  rw [openingTests, if_neg (not_not.2 hs), hf, if_neg (by decide), ha]
  simp only [hp]

end

section
variable {s : State} {pl : Placement} (d : BurstDesc) (burst : WireBurst)

theorem bodyBurst_refused {cause : BlankCause} (hs : s.part.state = .active)
    (hc : NoContext s pl) (ho : openingTests s pl.window = .error cause) :
    bodyBurst d burst pl s = refuseBurst d pl.window cause s := by
  have hnone : findContext s.contexts pl.window pl.slot = none :=
    (findContext_none s.contexts pl.window pl.slot).2 hc
  simp only [bodyBurst, hs, hnone, ho, ne_eq, not_true_eq_false, ↓reduceIte]

theorem bodyBurst_opening {p : Fin 16} {e : PoolEntry} (hs : s.part.state = .active)
    (hc : NoContext s pl) (ho : openingTests s pl.window = .ok (p, e)) :
    bodyBurst d burst pl s = bodyOpensContext d burst pl p e s := by
  have hnone : findContext s.contexts pl.window pl.slot = none :=
    (findContext_none s.contexts pl.window pl.slot).2 hc
  simp only [bodyBurst, hs, hnone, ho, ne_eq, not_true_eq_false, ↓reduceIte]

end

theorem exec_writeDataBurst_refused {s : State} {d : BurstDesc} {rest : List BurstDesc}
    {burst : WireBurst} {pl : Placement} {cause : BlankCause}
    (h : PassingCapture s d rest burst pl) (hs : s.part.state = .active)
    (ht : pl.isTrailer = false) (hc : NoContext s pl)
    (ho : openingTests { s with writePath.awaiting := rest } pl.window = .error cause) :
    exec (.writeDataBurst burst) s =
      .next (blankedFor s d rest pl.window cause (if cause = .noKey then 0x60#7 else 0x40#7)) := by
  rw [exec_writeDataBurst_passing h, ht, if_neg Bool.false_ne_true,
    bodyBurst_refused (s := { s with writePath.awaiting := rest }) d burst hs hc ho, refuseBurst_eq]

/-- Settles O24: each opening test that fails names its cause, and the refusal is one for all. -/
theorem openingRefusals : Obligations.OpeningRefusals := by
  intro burst d rest pl s h hs ht hc
  refine ⟨fun hf => ?_, fun hf => ⟨fun hn => ?_, fun p hp => ?_⟩⟩
  · exact exec_writeDataBurst_refused h hs ht hc
      (openingTests_frozen (s := { s with writePath.awaiting := rest }) hs hf)
  · exact exec_writeDataBurst_refused h hs ht hc
      (openingTests_noKey (s := { s with writePath.awaiting := rest }) hs hf
        ((activePosition_eq_none_iff s pl.window).2 hn))
  · have ha : activePosition { s with writePath.awaiting := rest } pl.window = some p :=
      activePosition_of_theActive hp
    refine ⟨fun hpool => ?_, fun hpool hfull => ?_⟩
    · exact exec_writeDataBurst_refused h hs ht hc
        (openingTests_starved (s := { s with writePath.awaiting := rest }) hs hf ha hpool)
    · obtain ⟨e, tail, hp⟩ := List.exists_cons_of_ne_nil hpool
      exact exec_writeDataBurst_refused h hs ht hc
        ((openingTests_ofHead (s := { s with writePath.awaiting := rest }) hs hf ha hp).trans
          (if_pos hfull))

/-! ### Opening a context (R62, R63, R133, R134) -/

theorem forward_takeUpNext (b : WireBurst) (s : State) :
    forward b (takeUpNext s) = takeUpNext (forward b s) := by
  have hnext : nextRefill (forward b s) = nextRefill s := rfl
  unfold takeUpNext
  rw [forward_part, forward_derivation, hnext]
  by_cases hfree : s.part.state = .active ∧ s.derivation.inFlight = none
  · rw [if_pos hfree, if_pos hfree]
    cases s.derivation.pendingLoad with
    | some load => rfl
    | none => cases nextRefill s <;> rfl
  · rw [if_neg hfree, if_neg hfree]

/-- R66: the first burst of a context meets an empty coverage map, so every block of it is taken. -/
theorem Context.afterBurst_of_opened (inspects : Bool) {now : Tick} {c : Context}
    {blocks : List BodyBlock} (hlast : c.lastWrite = now) (hcov : c.coverage = 0#32)
    (htorn : c.torn = false) (hzero : c.zeroFilled = false)
    (hinsp : c.inspection = none) :
    c.afterBurst inspects now blocks =
      { c with
        coverage := coverWith 0#32 blocks
        tagSum := sumWith c c.tagSum blocks
        zeroFilled := blocks.any (·.zeroFilled)
        inspection := inspectionAfter inspects none blocks } := by
  have hfresh : c.fresh blocks = blocks := by simp [Context.fresh, hcov]
  simp [Context.afterBurst, Context.afterBlocks, hfresh, hcov, htorn, hzero, hinsp, hlast]

theorem Context.returned_of_opened {c : Context} (hcov : c.coverage = 0#32)
    (blocks : List BodyBlock) : blocks.map c.returned = blocks.map (enciphered c) := by
  simp [Context.returned, hcov]

theorem raiseNoticeWhen_eq (b : Bool) (c : NoticeCause) (s : State) :
    raiseNoticeWhen b c s =
      { s with part.notices := s.part.notices ||| (if b then c.mask else 0#7) } := by
  cases b <;> simp [raiseNoticeWhen, raiseNotice]

/-- The state once the pool head has left and its context stands, before the SPENT test. -/
def headDrawn (s : State) (pl : Placement) (p : Fin 16) (tail : List PoolEntry) (c : Context)
    (low : Bool) : State :=
  { s with
    contexts := insertContext c s.contexts
    expired := s.expired.filter fun x => !(x.window == pl.window && x.slot == pl.slot)
    pools := s.pools.set p tail
    part.notices := s.part.notices ||| (if low then 0x10#7 else 0#7) }

theorem bodyOpensContext_eq (d : BurstDesc) (burst : WireBurst) {s : State} {pl : Placement}
    {p : Fin 16} {e : PoolEntry} {tail : List PoolEntry}
    (hrec : s.windows[pl.window].record = some pl.record) (hp : ownerWindow p = pl.window)
    (hpool : s.pools[p] = e :: tail) :
    let x := s.store.positions[p]
    let blocks := bodyBlocks d burst pl.pos
    let low : Bool := decide ((x.limit + 1 - x.next) + tail.length +
      (if refillInFlight s p then 1 else 0) < pl.record.threshold.toNat)
    let opened := newContext s pl.window pl.slot p e low
    bodyOpensContext d burst pl p e s =
      takeUpNext (forward (returnedBurst d (blocks.map (enciphered opened)))
        (spentTest p (headDrawn s pl p tail
          { opened with
            coverage := coverWith 0#32 blocks
            tagSum := sumWith opened 0#128 blocks
            zeroFilled := blocks.any (·.zeroFilled)
            inspection := inspectionAfter pl.record.inspection none blocks } low))) := by
  intro x blocks low opened
  have hdrawn : removeHead p s = setPool p tail s := by rw [removeHead, hpool]; rfl
  have htail : (setPool p tail s).pools[p] = tail := (getElem_set_fin _ _ _ _).trans (if_pos rfl)
  have hthreshold : windowThreshold (setPool p tail s) (ownerWindow p) =
      pl.record.threshold.toNat := by
    simp only [windowThreshold, setPool_windows, hp, hrec]
  have hlow : keyLowAnswer (setPool p tail s) p = low := by
    rw [keyLowAnswer, remainingCount, hthreshold, htail]
    rfl
  have hinspects : windowInspects s pl.window = pl.record.inspection := by
    rw [windowInspects, hrec]
  have htaken := takeBurst_eq pl.record.inspection s.time.ticks opened
    (bodyBlocks_numbers_nodup d burst pl.pos)
  rw [Context.afterBurst_of_opened (now := s.time.ticks) (c := opened) _ rfl rfl rfl rfl rfl,
    Context.returned_of_opened (c := opened) rfl] at htaken
  simp only [bodyOpensContext, hdrawn, hlow, hinspects]
  rw [show newContext s pl.window pl.slot p e low = opened from rfl, htaken, forward_takeUpNext,
    raiseNoticeWhen_eq]
  cases low <;> rfl

theorem usedUp_headDrawn {s : State} {p : Fin 16} (pl : Placement) (tail : List PoolEntry)
    (c : Context) (low : Bool) (ha : s.store.positions[p].state = .active) :
    usedUp (headDrawn s pl p tail c low) p =
      (decide (s.store.positions[p].limit < s.store.positions[p].next) && tail.isEmpty &&
        !refillInFlight s p) := by
  have htail : (headDrawn s pl p tail c low).pools[p] = tail :=
    (getElem_set_fin _ _ _ _).trans (if_pos rfl)
  have hkey : holdsKey s.store.positions[p] = true := (holdsKey_iff _).2 (.inr ha)
  rw [usedUp, htail]
  show (holdsKey s.store.positions[p] && _ && _ && _) = _
  rw [hkey, Bool.true_and]
  rfl

theorem spentAt_of_active {s : State} {p : Fin 16} (ha : s.store.positions[p].state = .active) :
    spentAt s p =
      { s with
        store.positions := promoted p (s.store.positions.set p (turnedSpent s.store.positions[p]))
        part.notices := noticesAfterRollover s p } := by
  rw [spentAt, if_pos ha, if_pos ha]

theorem noticesAfterRollover_headDrawn (s : State) (pl : Placement) (p : Fin 16)
    (tail : List PoolEntry) (c : Context) (low : Bool) :
    noticesAfterRollover (headDrawn s pl p tail c low) p =
      noticesAfterRollover s p ||| (if low then 0x10#7 else 0#7) := by
  show (if s.store.positions[partner p].state ≠ .ready ∧ windowEnabled s (ownerWindow p) = true then
    (s.part.notices ||| _) ||| 0x20#7 else s.part.notices ||| _) = _
  rw [noticesAfterRollover]
  split
  · rw [BitVec.or_assoc, BitVec.or_comm _ 0x20#7, ← BitVec.or_assoc]
  · rfl

/-- Settles O25: the opening tests pass, the head is drawn, and the SPENT test is made on the state
without it. -/
theorem openingDrawsThePoolHead : Obligations.OpeningDrawsThePoolHead := by
  intro burst d rest pl s p e tail h hs ht hc hf hp hpool hlen x blocks remaining low spent opened taken
  have hrec : s.windows[pl.window].record = some pl.record := record_of_passing h
  have ho : openingTests { s with writePath.awaiting := rest } pl.window = .ok (p, e) :=
    (openingTests_ofHead (s := { s with writePath.awaiting := rest }) hs hf
      (activePosition_of_theActive hp) hpool).trans (if_neg (by simpa using hlen))
  rw [exec_writeDataBurst_passing h, ht, if_neg Bool.false_ne_true,
    bodyBurst_opening (s := { s with writePath.awaiting := rest }) d burst hs hc ho,
    bodyOpensContext_eq (s := { s with writePath.awaiting := rest }) d burst hrec hp.1 hpool,
    spentTest_eq, usedUp_headDrawn (s := { s with writePath.awaiting := rest }) _ _ _ _ hp.2.1]
  refine congrArg (fun v => Host.Outcome.next (takeUpNext v)) ?_
  show forward _ (if spent = true then spentAt _ p else _) = _
  by_cases hspent : spent = true
  · rw [if_pos hspent, spentAt_of_active (s := headDrawn { s with writePath.awaiting := rest } _ _ _ _ _)
      hp.2.1, noticesAfterRollover_headDrawn]
    simp only [if_pos hspent]
    rfl
  · simp only [if_neg hspent]
    rfl

/-! ### A trailer-line burst that closes a context (R72, R90) -/

theorem trailerBurst_of_context {s : State} {pl : Placement} {c : Context} (d : BurstDesc)
    (burst : WireBurst) (hs : s.part.state = .active)
    (hc : findContext s.contexts pl.window pl.slot = some c) :
    trailerBurst d burst pl s = closeContext d (writtenCloseWord d burst) pl c s := by
  simp only [trailerBurst, hs, hc, deliveredCloseWord_eq_written, ne_eq, not_true_eq_false,
    ↓reduceIte]

section
variable (c : Context) (w : CloseWord) (capacity : Nat) (now : Tick) (seq : BitVec 32)

theorem closeTrailer_window : (closeTrailer c w capacity now seq).window = c.window := by
  rw [closeTrailer_eq]
  rfl

theorem closeTrailer_state :
    (closeTrailer c w capacity now seq).state = closeState c w capacity := by
  rw [closeTrailer_eq]
  rfl

end

theorem closeContext_eq (d : BurstDesc) (w : CloseWord) {pl : Placement} {c : Context} (s : State)
    (hw : c.window = pl.window) :
    let state := closeState c w pl.record.capacity
    let seq := wrapSeqAfter state s.store.wrapSeq[pl.window]
    let trailer := closeTrailer c w pl.record.capacity s.time.ticks seq
    closeContext d w pl c s =
      { s with
        ports.dramWrite := some (composedBurst d (trailerPart d.extent trailer) false)
        windows :=
          s.windows.set pl.window
            { s.windows[pl.window] with
              outcomes := outcomesAfter s.windows[pl.window].outcomes state }
        store.wrapSeq := s.store.wrapSeq.set pl.window seq
        contexts := removeContext pl.window pl.slot s.contexts } := by
  simp only [closeContext, sendTrailer_eq, closeTrailer_window, closeTrailer_state, hw]

/-- Settles O29: the context is found, so the burst is its close. -/
theorem trailerBurstClosesContext : Obligations.TrailerBurstClosesContext := by
  intro burst d rest pl c s h hs ht hc
  obtain ⟨-, hw, -⟩ := findContext_some hc
  rw [exec_writeDataBurst_passing h, if_pos ht,
    trailerBurst_of_context (s := { s with writePath.awaiting := rest }) d burst hs hc,
    closeContext_eq d _ _ hw]
  rfl

end Sys2Proof.Machine
end

section
/-! SUPPORT. Bytes, codes and blocks on the wire (sections 2, 4 and 13): numbers in bytes, the write check
code as a remainder, the form of what the part sends, and the blocks of a body burst. -/

namespace Sys2Proof.Machine

/-! ### Numbers and bytes (R183) -/

theorem numberBE_lt (bytes : List Byte) : numberBE bytes < 256 ^ bytes.length := by
  induction bytes using List.reverseRecOn with
  | nil => exact Nat.one_pos
  | append_singleton bytes b ih =>
    rw [numberBE_append, List.length_append, List.length_singleton, Nat.pow_succ]
    have hb : b.toNat < 256 := b.isLt
    omega

theorem bytesBE_numberBE (bytes : List Byte) : bytesBE bytes.length (numberBE bytes) = bytes := by
  induction bytes using List.reverseRecOn with
  | nil => rfl
  | append_singleton bytes b ih =>
    have hb : b.toNat < 256 := b.isLt
    rw [List.length_append, List.length_singleton, bytesBE_succ, numberBE_append,
      show (numberBE bytes * 256 + b.toNat) / 256 = numberBE bytes by omega, ih]
    congr 2
    exact BitVec.eq_of_toNat_eq (by rw [BitVec.toNat_ofNat]; omega)

theorem bytesOfBlock_blockOfBytes {bytes : List Byte} (h : bytes.length = 16) :
    bytesOfBlock (blockOfBytes bytes) = bytes := by
  have hlt := numberBE_lt bytes
  rw [h] at hlt
  rw [bytesOfBlock, blockOfBytes, BitVec.toNat_ofNat, Nat.mod_eq_of_lt (show _ < 2 ^ 128 from hlt),
    ← h, bytesBE_numberBE]

theorem numberAt_succ (bytes : List Byte) (offset n : Nat) :
    numberAt bytes offset (n + 1) =
      numberAt bytes offset n * 256 + (byteAt bytes (offset + n)).toNat := by
  rw [numberAt, List.range_succ, List.map_append, List.sum_append, numberAt, ← List.sum_map_mul_right]
  congr 1
  · refine congrArg List.sum (List.map_congr_left fun i hi => ?_)
    have hlt : i < n := List.mem_range.1 hi
    rw [mul_assoc, ← Nat.pow_succ, show n + 1 - 1 - i = (n - 1 - i).succ by omega]
  · simp

theorem numberAt_eq_fieldBE (bytes : List Byte) (offset n : Nat) (h : offset + n ≤ bytes.length) :
    numberAt bytes offset n = fieldBE bytes offset n := by
  induction n with
  | zero => rfl
  | succ n ih =>
    have hget : (bytes.drop offset)[n]? = some (byteAt bytes (offset + n)) := by
      rw [List.getElem?_drop, byteAt, List.getD_eq_getElem _ _ (by omega), List.getElem?_eq_getElem]
    rw [numberAt_succ, ih (by omega), fieldBE, fieldBE, List.take_add_one, hget, Option.toList_some,
      numberBE_append]

/-! ### The write check code (R24, Table 2-1) -/

/-- One bit into the register of a division by x^8 + x^2 + x + 1. -/
def divisionStep (r : Nat) (bit : Bool) : Nat :=
  if 2 * r + bit.toNat < 256 then 2 * r + bit.toNat else Nat.xor (2 * r + bit.toNat) 0x107

/-- The remainder once eight 0 bits have followed. -/
def eightZeros (r : Nat) : Nat := (List.replicate 8 false).foldl divisionStep r

/-- The register of the code stands eight 0 bits ahead of the division's own, bit by bit. -/
theorem crcBit_eightZeros : ∀ r < 256, ∀ bit : Bool, divisionStep r bit < 256 ∧
    crcBit 0x07#8 (BitVec.ofNat 8 (eightZeros r)) bit =
      BitVec.ofNat 8 (eightZeros (divisionStep r bit)) := by
  decide +kernel

theorem foldl_crcBit_eq (bits : List Bool) : ∀ r < 256,
    bits.foldl (crcBit 0x07#8) (BitVec.ofNat 8 (eightZeros r)) =
      BitVec.ofNat 8 (eightZeros (bits.foldl divisionStep r)) := by
  induction bits with
  | nil => exact fun _ _ => rfl
  | cons bit bits ih =>
    intro r hr
    obtain ⟨hlt, hstep⟩ := crcBit_eightZeros r hr bit
    rw [List.foldl_cons, hstep, ih _ hlt, List.foldl_cons]

/-- The bits of a byte as they are driven, bit 7 first. -/
def bitsOfByte (b : Byte) : List Bool := (List.range 8).map fun i => b.getLsbD (7 - i)

theorem crc_eq_foldl_bits (bytes : List Byte) : ∀ c : Byte,
    crc 0x07#8 c bytes = (bytes.flatMap bitsOfByte).foldl (crcBit 0x07#8) c := by
  induction bytes with
  | nil => exact fun _ => rfl
  | cons b bytes ih =>
    intro c
    rw [List.flatMap_cons, List.foldl_append, ← ih]
    rfl

theorem laneCode_eq_writeCheckCode (driven : List Byte) :
    laneCode driven = writeCheckCode driven := by
  have h := foldl_crcBit_eq (driven.flatMap bitsOfByte) 0 (by decide)
  rw [laneCode, crc_eq_foldl_bits]
  refine h.trans (congrArg (BitVec.ofNat 8) ?_)
  exact List.foldl_append.symm

theorem getElem?_laneCodes (beats : List Beat) {i : Nat} (hi : i < 8) :
    (laneCodes beats)[i]? = some (writeCheckCode (onLane beats i)) := by
  rw [laneCodes, List.getElem?_map, List.getElem?_range hi, ← laneCode_eq_writeCheckCode]
  rfl

theorem length_laneCodes (beats : List Beat) : (laneCodes beats).length = 8 := by
  simp [laneCodes]

/-! ### What the part sends (R26, R27, R28, R39) -/

theorem sentByte_eq_readByte (inversion : Bool) (b : Byte) :
    sentByte inversion b = readByte inversion b := by
  rw [sentByte, readByte, zeroBits, List.countP_eq_length_filter]
  exact if_congr (by rw [Bool.and_eq_true, decide_eq_true_eq]) rfl rfl

/-- R28 undoes itself: only an inverted byte travels with its line asserted. -/
theorem arrivedByte_readByte (d : BurstDesc) (b : Byte) :
    arrivedByte d (readByte d.writeInversion b) = some b := by
  unfold readByte arrivedByte
  by_cases hi : d.writeInversion = true
  · by_cases hz : 4 < (List.range 8).countP fun i => !b.getLsbD i <;> simp [hi, hz]
  · simp [hi]

theorem composedBurst_beats (d : BurstDesc) (beats : List (List Byte)) (complemented : Bool) :
    (composedBurst d beats complemented).beats =
      beats.map fun b => b.map (readByte d.writeInversion) := by
  simp only [composedBurst, funext (sentByte_eq_readByte _)]

theorem composedBurst_codes (d : BurstDesc) (beats : List (List Byte)) (complemented : Bool) :
    (composedBurst d beats complemented).codes =
      if d.writeCheck then
        some ((laneCodes (composedBurst d beats complemented).beats).map
          fun c => if complemented then ~~~c else c)
      else none := rfl

theorem not_ne_self (x : Byte) : ~~~x ≠ x := fun h => by
  have hbit : (~~~x).getLsbD 0 = x.getLsbD 0 := congrArg (BitVec.getLsbD · 0) h
  simp at hbit

section
variable (d : BurstDesc) (beats : List (List Byte))

/-- R27: what goes out is taken in again as it was chosen. -/
theorem composedBurst_stores (complemented : Bool) :
    ((composedBurst d beats complemented).beats.map fun b => b.map (arrivedByte d)) =
      beats.map fun b => b.map some := by
  simp only [composedBurst_beats, List.map_map, Function.comp_def, arrivedByte_readByte]

theorem composedBurst_codes_correct :
    (composedBurst d beats false).codes =
      if d.writeCheck then some (laneCodes (composedBurst d beats false).beats) else none := by
  rw [composedBurst_codes]
  simp only [Bool.false_eq_true, ↓reduceIte, List.map_id']

theorem passesCheck_composedBurst : passesCheck d (composedBurst d beats false) = true := by
  rw [passesCheck, composedBurst_codes_correct]
  cases d.writeCheck <;> simp

theorem composedBurst_codes_complemented (hw : d.writeCheck = true) :
    (composedBurst d beats true).codes =
      some ((laneCodes (composedBurst d beats true).beats).map (~~~ ·)) := by
  rw [composedBurst_codes, if_pos hw]
  simp only [↓reduceIte]

/-- R26: a complemented code is wrong in every lane, so lane 0 already fails the check. -/
theorem not_passesCheck_complemented (hw : d.writeCheck = true) :
    passesCheck d (composedBurst d beats true) = false := by
  refine (passesCheck_eq_false_iff _ _).2 ⟨hw, fun h => ?_⟩
  rw [composedBurst_codes_complemented d beats hw] at h
  have hlane : (laneCodes (composedBurst d beats true).beats).map (~~~ ·) =
    laneCodes (composedBurst d beats true).beats := Option.some.inj h
  have h0 := congrArg (·[0]?) hlane
  simp only [List.getElem?_map, getElem?_laneCodes _ (by decide : 0 < 8), Option.map_some,
    Option.some.injEq] at h0
  exact not_ne_self _ h0

end

/-- Settles O20. -/
theorem composedBurstsStoreTheChosenBytes : Obligations.ComposedBurstsStoreTheChosenBytes := by
  refine ⟨laneCode_eq_writeCheckCode,
    fun beats => ⟨length_laneCodes beats, fun i hi => getElem?_laneCodes beats hi⟩,
    fun d beats _ => ⟨composedBurst_beats d beats false, composedBurst_stores d beats false,
      composedBurst_codes_correct d beats, passesCheck_composedBurst d beats, rfl, fun hw => ?_,
      composedBurst_zeroBeats d⟩⟩
  refine ⟨not_passesCheck_complemented d beats hw, _,
    composedBurst_codes_complemented d beats hw, by simp [length_laneCodes], fun i hi => ?_⟩
  rw [List.getElem?_map, getElem?_laneCodes _ hi]
  exact ⟨rfl, fun h => not_ne_self _ (Option.some.inj h)⟩

/-- Settles O34. -/
theorem readDataPassedOrReplaced : Obligations.ReadDataPassedOrReplaced := by
  intro beats d rest s hr
  have hexec : exec (.readDataBurst beats) s =
      .next { s with reads := rest, ports.readData := some (readAnswered d beats) } := by
    show execReadDataBurst beats s = _
    rw [execReadDataBurst, hr]
  refine ⟨fun hd => ?_, fun t hd => ?_⟩
  · rw [hexec, readAnswered, hd]
  · rw [hexec, readAnswered, hd]
    simp only [synthesizedBeats, Trailer.beat, funext (sentByte_eq_readByte _)]

/-! ### The blocks of a body burst (R27, R29, R32) -/

theorem bodyBlocks_numbers (d : BurstDesc) (burst : WireBurst) (p : Nat) :
    (bodyBlocks d burst p).map (·.number) =
      (List.range (d.extent.beats / 2)).map fun i => 4 * p + d.extent.firstBeat / 2 + i := by
  rw [bodyBlocks, List.map_map]
  rfl

theorem arrivedByte_eq_none_iff (d : BurstDesc) (w : WireByte) :
    arrivedByte d w = none ↔
      d.writeInversion = false ∧ d.dataMask = true ∧ w.asserted = true := by
  unfold arrivedByte
  cases d.writeInversion <;> cases d.dataMask <;> cases w.asserted <;> simp

/-- The sixteen bytes of a block as they stand on the wire. -/
def blockOnWire (burst : WireBurst) (i : Nat) : List WireByte :=
  burst.beats.getD (2 * i) [] ++ burst.beats.getD (2 * i + 1) []

theorem bodyBlock_plain (d : BurstDesc) (burst : WireBurst) (p i : Nat) :
    (bodyBlock d burst p i).plain = blockOfBytes ((blockOnWire burst i).map (plainByte d)) := by
  simp only [bodyBlock, blockArrived, blockOnWire, List.map_map, Function.comp_def,
    arrivedByte_getD_zero]

theorem bodyBlock_zeroFilled_iff (d : BurstDesc) (burst : WireBurst) (p i : Nat) :
    (bodyBlock d burst p i).zeroFilled = true ↔
      d.writeInversion = false ∧ d.dataMask = true ∧
        ∃ w ∈ blockOnWire burst i, w.asserted = true := by
  simp only [bodyBlock, blockArrived, blockOnWire, List.any_map, List.any_eq_true,
    Function.comp_apply, Option.isNone_iff_eq_none, arrivedByte_eq_none_iff]
  exact ⟨fun ⟨w, hw, hi, hm, ha⟩ => ⟨hi, hm, w, hw, ha⟩,
    fun ⟨hi, hm, w, hw, ha⟩ => ⟨w, hw, hi, hm, ha⟩⟩

section
variable {burst : WireBurst} {i : Nat} (hbeats : ∀ beat ∈ burst.beats, beat.length = 8)
include hbeats

theorem length_beat {j : Nat} (hj : j < burst.beats.length) :
    (burst.beats.getD j []).length = 8 := by
  rw [List.getD_eq_getElem _ _ hj]
  exact hbeats _ (List.getElem_mem hj)

variable (hi : 2 * i + 1 < burst.beats.length)
include hi

theorem length_blockOnWire : (blockOnWire burst i).length = 16 := by
  rw [blockOnWire, List.length_append, length_beat hbeats (by omega), length_beat hbeats hi]

theorem getElem?_blockOnWire {k : Nat} (hk : k < 16) :
    (blockOnWire burst i)[k]? = (burst.beats.getD (2 * i + k / 8) [])[k % 8]? := by
  have hlen := length_beat hbeats (by omega : 2 * i < burst.beats.length)
  rw [blockOnWire]
  obtain hlt | hge := Nat.lt_or_ge k 8
  · rw [List.getElem?_append_left (by omega), Nat.div_eq_of_lt hlt, Nat.mod_eq_of_lt hlt]
    rfl
  · rw [List.getElem?_append_right (by omega), hlen, show k / 8 = 1 by omega,
      show k % 8 = k - 8 by omega]

end

theorem exists_mem_blockOnWire_iff {burst : WireBurst} {i : Nat} (P : WireByte → Prop)
    (hlen : (blockOnWire burst i).length = 16) :
    (∃ w ∈ blockOnWire burst i, P w) ↔ ∃ k < 16, ∃ w, (blockOnWire burst i)[k]? = some w ∧ P w := by
  refine ⟨fun ⟨w, hw, hp⟩ => ?_, fun ⟨k, _, w, hw, hp⟩ => ⟨w, List.mem_of_getElem? hw, hp⟩⟩
  obtain ⟨k, hk, rfl⟩ := List.mem_iff_getElem.1 hw
  exact ⟨k, hlen ▸ hk, _, List.getElem?_eq_getElem hk, hp⟩

/-- Settles O27: byte `k` of a block is byte `k` of its two beats in a row. -/
theorem bodyBlocksOfABurst : Obligations.BodyBlocksOfABurst := by
  intro d burst p
  refine ⟨?_, fun i b hcount hbeats hb => ?_, fun b hb hplain => ?_⟩
  · rw [bodyBlocks_numbers]
    cases d.extent <;> simp [Extent.beats, Extent.firstBeat, List.range_succ]
  · obtain ⟨hi, rfl⟩ : i < d.extent.beats / 2 ∧ bodyBlock d burst p i = b := by
      simpa [bodyBlocks, List.getElem?_eq_some_iff] using hb
    have hpair : 2 * i + 1 < burst.beats.length := by omega
    have hlen := length_blockOnWire hbeats hpair
    have hget : ∀ k < 16, _ := fun k hk => getElem?_blockOnWire hbeats hpair (k := k) hk
    refine ⟨fun k hk => ⟨(blockOnWire burst i)[k], ?_, ?_⟩, ?_⟩
    · exact (hget k hk).symm.trans (List.getElem?_eq_getElem _)
    · rw [bodyBlock_plain, bytesOfBlock_blockOfBytes (by simpa using hlen), List.getElem?_map,
        List.getElem?_eq_getElem, Option.map_some]
    · rw [bodyBlock_zeroFilled_iff, exists_mem_blockOnWire_iff _ hlen]
      refine and_congr_right fun _ => and_congr_right fun _ => ?_
      exact exists_congr fun k => and_congr_right fun hk => by rw [hget k hk]
  · obtain ⟨i, -, rfl⟩ := List.mem_map.1 hb
    refine Bool.eq_false_iff.2 fun hzero => ?_
    obtain ⟨hinv, hmask, -⟩ := (bodyBlock_zeroFilled_iff d burst p i).1 hzero
    simp [hinv, hmask] at hplain

/-! ### The order of a record's blocks (R66) -/

theorem coverWith_perm (coverage : BitVec 32) {blocks blocks' : List BodyBlock}
    (h : blocks.Perm blocks') : coverWith coverage blocks = coverWith coverage blocks' :=
  h.foldl_eq' (fun x _ y _ z => by rw [BitVec.or_assoc, BitVec.or_assoc, BitVec.or_comm (1#32 <<< _)]) _

theorem sumWith_perm (c : Context) (sum : Block) {blocks blocks' : List BodyBlock}
    (h : blocks.Perm blocks') : sumWith c sum blocks = sumWith c sum blocks' :=
  h.foldl_eq' (fun x _ y _ z => by
    rw [BitVec.xor_assoc, BitVec.xor_assoc, BitVec.xor_comm (encipher _ _)]) _

theorem find?_perm {α : Type} {p : α → Bool} {l l' : List α} (h : l.Perm l')
    (hone : ∀ x ∈ l, ∀ y ∈ l, p x = true → p y = true → x = y) : l.find? p = l'.find? p := by
  cases hx : l.find? p with
  | none =>
    exact (List.find?_eq_none.2 fun y hy => List.find?_eq_none.1 hx y (h.mem_iff.2 hy)).symm
  | some x =>
    have hmem := List.mem_of_find?_eq_some hx
    have hpx := List.find?_some hx
    obtain ⟨y, hy⟩ := Option.isSome_iff_exists.1 (List.find?_isSome.2 ⟨x, h.mem_iff.1 hmem, hpx⟩)
    rw [hy, hone x hmem y (h.mem_iff.2 (List.mem_of_find?_eq_some hy)) hpx (List.find?_some hy)]

/-- Block numbers are distinct, so block 0 is found whatever the order. -/
theorem inspectionAfter_perm (inspects : Bool) (before : Option Inspection)
    {blocks blocks' : List BodyBlock} (h : blocks.Perm blocks')
    (hn : (blocks.map (·.number)).Nodup) :
    inspectionAfter inspects before blocks = inspectionAfter inspects before blocks' := by
  have hfind : blocks.find? (fun b => b.number == 0) = blocks'.find? (fun b => b.number == 0) :=
    find?_perm h fun x hx y hy h0 h0' => List.inj_on_of_nodup_map hn hx hy
      ((beq_iff_eq.1 h0).trans (beq_iff_eq.1 h0').symm)
  rw [inspectionAfter, inspectionAfter, hfind]

theorem afterBlocks_perm (inspects : Bool) (c : Context) {blocks blocks' : List BodyBlock}
    (h : blocks.Perm blocks') (hn : (blocks.map (·.number)).Nodup) :
    c.afterBlocks inspects blocks = c.afterBlocks inspects blocks' := by
  have hfresh : (c.fresh blocks).Perm (c.fresh blocks') := h.filter _
  have hnodup : ((c.fresh blocks).map (·.number)).Nodup :=
    hn.sublist (List.filter_sublist.map _)
  rw [Context.afterBlocks, Context.afterBlocks, coverWith_perm _ hfresh, sumWith_perm _ _ hfresh,
    inspectionAfter_perm _ _ hfresh hnodup, h.any_eq, hfresh.any_eq]

/-- Settles O28. -/
theorem blockOrderDoesNotMatter : Obligations.BlockOrderDoesNotMatter := by
  intro inspects c blocks blocks' h hn
  have hn' : (blocks'.map (·.number)).Nodup := (h.map _).nodup_iff.1 hn
  rw [takeBlocks_eq inspects _ c hn, takeBlocks_eq inspects _ c hn']
  refine ⟨afterBlocks_perm inspects c h hn, ?_⟩
  have hzip : ∀ l : List BodyBlock, l.zip (l.map c.returned) = l.map fun b => (b, c.returned b) :=
    fun l => by simpa using List.zip_map' (f := id) (g := c.returned) (l := l)
  rw [hzip, hzip]
  exact h.map _

end Sys2Proof.Machine
end

section
/-! SUPPORT. The bounds of a close trailer (section 5) and records as bytes (section 13): trailers and the
frames of the management link. -/

namespace Sys2Proof.Machine

/-! ### The bounds of a close trailer (R102) -/

theorem lengthTaken_bounds (length : Byte) {capacity : Nat} (h : 1 ≤ capacity) :
    1 ≤ lengthTaken length capacity ∧ lengthTaken length capacity ≤ capacity := by
  rw [lengthTaken]
  split <;> omega

/-- R107, R110, R113: a result either counts no digits, with every nibble Fh, or counts 12 to 19. -/
theorem inspectionOf_bounds (inspects : Bool) (plain : Block) :
    let r := inspectionOf inspects plain
    r.digitCount = 0x00#8 ∧ r.masked = List.replicate 20 0xF#4 ∨
      12 ≤ r.digitCount.toNat ∧ r.digitCount.toNat ≤ 19 ∧ r.masked.length = 20 := by
  cases inspects with
  | false => exact .inl ⟨rfl, rfl⟩
  | true =>
    show _ ∨ _
    rw [show inspectionOf true plain = inspectBytes (bytesOfBlock plain) from rfl]
    have hfield := length_digitField (bytesBE_length 16 plain.toNat)
    by_cases hr : readable (byteAt (bytesOfBlock plain) 1).toNat (digitField (bytesOfBlock plain))
    · obtain ⟨hlo, hhi, -⟩ := (readable_iff (by rw [bytesOfBlock, hfield]; decide)).1 hr
      rw [inspectBytes_of_readable hr]
      exact .inr ⟨hlo, hhi, by simp [maskedNumber]⟩
    · rw [inspectBytes_of_unreadable hr]
      exact .inl ⟨rfl, rfl⟩

/-- Flag bits that leave bit 0 and the high byte clear. -/
def LowFlags (x : BitVec 16) : Prop := x.toNat < 256 ∧ x.getLsbD 0 = false

theorem toNat_or_lt_256 {a b : BitVec 16} (ha : a.toNat < 256) (hb : b.toNat < 256) :
    (a ||| b).toNat < 256 := by
  rw [BitVec.toNat_or]
  exact Nat.or_lt_two_pow (n := 8) ha hb

theorem LowFlags.or {a b : BitVec 16} (ha : LowFlags a) (hb : LowFlags b) : LowFlags (a ||| b) :=
  ⟨toNat_or_lt_256 ha.1 hb.1, by rw [BitVec.getLsbD_or, ha.2, hb.2]; rfl⟩

theorem LowFlags.ite {p : Prop} [Decidable p] {a b : BitVec 16} (ha : LowFlags a)
    (hb : LowFlags b) : LowFlags (if p then a else b) := by
  split
  · exact ha
  · exact hb

theorem lowFlags_zero : LowFlags 0#16 := ⟨by decide, rfl⟩

theorem lowFlags_shownFlags (c : Context) : LowFlags (shownFlags c) :=
  (((LowFlags.ite ⟨by decide, rfl⟩ lowFlags_zero).or
    (LowFlags.ite ⟨by decide, rfl⟩ lowFlags_zero)).or
    (LowFlags.ite ⟨by decide, rfl⟩ lowFlags_zero)).or (LowFlags.ite ⟨by decide, rfl⟩ lowFlags_zero)

theorem lowFlags_wordFlags (w : CloseWord) (capacity : Nat) : LowFlags (wordFlags w capacity) :=
  (LowFlags.ite ⟨by decide, rfl⟩ lowFlags_zero).or (LowFlags.ite lowFlags_zero ⟨by decide, rfl⟩)

/-- R93: bit 0 says that no inspection result was there. -/
theorem closeFlags_bounds (c : Context) (w : CloseWord) (capacity : Nat) :
    (closeFlags c w capacity).toNat < 256 ∧
      (c.inspection ≠ none → (closeFlags c w capacity).getLsbD 0 = false) := by
  have hextra : LowFlags
      (if (List.range 32).any fun j =>
          decide (lengthTaken w.length capacity ≤ j) && c.coverage.getLsbD j then 0x0010#16
        else 0#16) := LowFlags.ite ⟨by decide, rfl⟩ lowFlags_zero
  rw [closeFlags_eq]
  cases c.inspection with
  | none =>
    exact ⟨toNat_or_lt_256 (toNat_or_lt_256 (toNat_or_lt_256 (by decide) (lowFlags_shownFlags c).1)
      hextra.1) (lowFlags_wordFlags w capacity).1, fun h => absurd rfl h⟩
  | some r =>
    have hlow := ((lowFlags_zero.or (lowFlags_shownFlags c)).or hextra).or
      (lowFlags_wordFlags w capacity)
    exact ⟨hlow.1, fun _ => hlow.2⟩

theorem closeTrailer_flags (c : Context) (w : CloseWord) (capacity : Nat) (now : Tick)
    (seq : BitVec 32) : (closeTrailer c w capacity now seq).flags = closeFlags c w capacity := by
  rw [closeTrailer_eq]
  rfl

/-- R75: WRAPPED says that every declared block is covered. -/
theorem covered_of_wrapped {c : Context} {w : CloseWord} {capacity : Nat}
    (h : closeState c w capacity = .wrapped) :
    ∀ j < lengthTaken w.length capacity, c.coverage.getLsbD j = true := by
  intro j hj
  rw [closeState_eq] at h
  split at h
  · exact absurd h (by decide)
  split at h
  · exact absurd h (by decide)
  split at h
  · exact absurd h (by decide)
  next hall => exact Bool.eq_true_of_not_eq_false fun hf => hall ⟨j, hj, hf⟩

/-- Settles O32, from the fields of the trailer as O31 gives them. -/
theorem closeTrailerBounds : Obligations.CloseTrailerBounds := by
  intro c w capacity now seq hlo hhi hcounter hcover hinsp hresult t
  obtain ⟨-, -, hfields, huntagged, -⟩ := closeTrailerFields c w capacity now seq
  obtain ⟨hone, hcap⟩ := lengthTaken_bounds w.length hlo
  have hdeclared : t.declared.toNat = lengthTaken w.length capacity := by
    rw [show t.declared = BitVec.ofNat 8 (lengthTaken w.length capacity) from
      congrArg Trailer.declared hfields, BitVec.toNat_ofNat, Nat.mod_eq_of_lt (by omega)]
  have hcov : t.coverage = c.coverage := congrArg Trailer.coverage hfields
  refine ⟨by omega, by omega, ?_, ?_, fun j hj => ?_, fun htag => ?_, fun hwrapped => ?_, ?_⟩
  · rw [show t.counter = BitVec.ofNat 32 c.counter from congrArg Trailer.counter hfields,
      BitVec.toNat_ofNat, Nat.mod_eq_of_lt (by omega)]
    exact hcounter
  · rw [show t.digitCount = _ from congrArg Trailer.digitCount hfields,
      show t.masked = _ from congrArg Trailer.masked hfields]
    cases hi : c.inspection with
    | none => exact .inl ⟨rfl, rfl⟩
    | some r =>
      obtain ⟨inspects, plain, rfl⟩ := hresult r (by rw [hi]; rfl)
      exact inspectionOf_bounds inspects plain
  · rw [hcov]
    exact hcover j hj
  · by_contra hne
    exact htag (huntagged hne)
  · have hall := covered_of_wrapped ((closeTrailer_state c w capacity now seq).symm.trans hwrapped)
    refine ⟨fun j hj => ?_, ?_⟩
    · rw [hcov]
      exact hall j (hdeclared ▸ hj)
    · rw [show t.flags = _ from closeTrailer_flags c w capacity now seq]
      refine (closeFlags_bounds c w capacity).2 fun hnone => ?_
      rw [hnone, hall 0 hone] at hinsp
      exact absurd hinsp (by decide)
  · rw [show t.flags = _ from closeTrailer_flags c w capacity now seq]
    exact (closeFlags_bounds c w capacity).1

/-! ### Fields of a record (R183) -/

section
variable {a b : List Byte} {offset n v : Nat}

theorem byteAt_append_left (h : offset < a.length) : byteAt (a ++ b) offset = byteAt a offset :=
  List.getD_append _ _ _ _ h

theorem byteAt_append_right (h : a.length ≤ offset) :
    byteAt (a ++ b) offset = byteAt b (offset - a.length) :=
  List.getD_append_right _ _ _ _ h

theorem fieldBE_append_left (h : offset + n ≤ a.length) :
    fieldBE (a ++ b) offset n = fieldBE a offset n := by
  rw [fieldBE, fieldBE, List.drop_append_of_le_length (by omega),
    List.take_append_of_le_length (by rw [List.length_drop]; omega)]

theorem fieldBE_append_right (h : a.length ≤ offset) :
    fieldBE (a ++ b) offset n = fieldBE b (offset - a.length) n := by
  rw [fieldBE, fieldBE, List.drop_append, List.drop_of_length_le h, List.nil_append]

theorem fieldBE_bytesBE (h : v < 256 ^ n) : fieldBE (bytesBE n v) 0 n = v := by
  rw [fieldBE, List.drop_zero, List.take_of_length_le (bytesBE_length n v).le,
    numberBE_bytesBE n v h]

end

theorem fieldBE_one (bytes : List Byte) {offset : Nat} (h : offset < bytes.length) :
    fieldBE bytes offset 1 = (byteAt bytes offset).toNat := by
  rw [fieldBE, List.take_one_drop_eq_of_lt_length h, byteAt, List.getD_eq_getElem _ _ h]
  simp [numberBE]

theorem length_packNibbles : ∀ l : List Nibble, (packNibbles l).length = l.length / 2
  | [] => rfl
  | [_] => by simp [packNibbles]
  | hi :: lo :: rest => by
    rw [packNibbles, List.length_cons, length_packNibbles rest]
    simp only [List.length_cons]
    omega

/-- R183: the high nibble of a byte comes first. -/
theorem byteAt_packNibbles : ∀ (l : List Nibble) (i : Nat), 2 * i + 1 < l.length →
    byteAt (packNibbles l) i = l.getD (2 * i) 0#4 ++ l.getD (2 * i + 1) 0#4
  | [], _, h => absurd h (Nat.not_lt_zero _)
  | [_], _, h => absurd h (by simp)
  | hi :: lo :: rest, 0, _ => rfl
  | hi :: lo :: rest, i + 1, h => byteAt_packNibbles rest i (by simp only [List.length_cons] at h; omega)

theorem nibblesOfByte_append (hi lo : Nibble) : nibblesOfByte (hi ++ lo) = [hi, lo] := by
  rw [nibblesOfByte, BitVec.extractLsb'_append_eq_left, BitVec.extractLsb'_append_eq_right]

theorem flatMap_nibbles_packNibbles : ∀ l : List Nibble, l.length % 2 = 0 →
    (packNibbles l).flatMap nibblesOfByte = l
  | [], _ => rfl
  | [_], h => absurd h (by simp)
  | hi :: lo :: rest, h => by
    rw [packNibbles, List.flatMap_cons, nibblesOfByte_append,
      flatMap_nibbles_packNibbles rest (by simp only [List.length_cons] at h; omega)]
    rfl

/-! ### The bytes of a trailer (Table 13-3) -/

theorem length_trailerBytes {t : Trailer} (hm : t.masked.length = 20) : t.bytes.length = 64 := by
  simp [Trailer.bytes, bytesBE_length, length_packNibbles, hm]

theorem window_of_byte (w : Fin 8) : (BitVec.ofNat 8 w.val).toNat = w.val := by
  rw [BitVec.toNat_ofNat, Nat.mod_eq_of_lt (by omega)]

theorem rejectCount_of_byte (x : BitVec 4) : (BitVec.ofNat 8 x.toNat).toNat = x.toNat := by
  rw [BitVec.toNat_ofNat, Nat.mod_eq_of_lt (by omega)]

section
variable {t : Trailer} (hm : t.masked.length = 20) (hs : t.slot < 65536)
include hm hs

theorem trailer_numbers :
    fieldBE t.bytes 4 2 = t.flags.toNat ∧ fieldBE t.bytes 6 2 = t.slot ∧
      fieldBE t.bytes 8 8 = t.keyId.toNat ∧ fieldBE t.bytes 16 4 = t.counter.toNat ∧
      fieldBE t.bytes 34 6 = t.writerRef.toNat ∧ fieldBE t.bytes 40 4 = t.openTick.toNat ∧
      fieldBE t.bytes 44 4 = t.closeTick.toNat ∧ fieldBE t.bytes 48 4 = t.coverage.toNat ∧
      fieldBE t.bytes 52 4 = t.wrapSeq.toNat ∧ fieldBE t.bytes 56 8 = t.tag.toNat := by
  refine ⟨?_, ?_, ?_, ?_, ?_, ?_, ?_, ?_, ?_, ?_⟩
  all_goals
    simp (disch := simp [bytesBE_length, length_packNibbles, hm]) only [Trailer.bytes,
      fieldBE_append_left, fieldBE_append_right]
    simp only [bytesBE_length, length_packNibbles, hm, List.length_append, List.length_cons,
      List.length_nil, Nat.reduceAdd, Nat.reduceDiv, Nat.reduceSub]
    refine fieldBE_bytesBE ?_
  · exact t.flags.isLt
  · exact hs
  · exact t.keyId.isLt
  · exact t.counter.isLt
  · exact t.writerRef.isLt
  · exact t.openTick.isLt
  · exact t.closeTick.isLt
  · exact t.coverage.isLt
  · exact t.wrapSeq.isLt
  · exact t.tag.isLt

omit hs in
theorem trailer_bytesAlone :
    byteAt t.bytes 0 = 0x01#8 ∧ byteAt t.bytes 1 = t.state.code ∧
      (byteAt t.bytes 2).toNat = t.window.val ∧
      (byteAt t.bytes 3).toNat = t.rejectCount.toNat ∧
      byteAt t.bytes 20 = t.digitCount ∧ byteAt t.bytes 21 = t.till ∧
      byteAt t.bytes 22 = t.kind ∧ byteAt t.bytes 23 = t.declared := by
  refine ⟨rfl, rfl, window_of_byte t.window, rejectCount_of_byte t.rejectCount, ?_, ?_, ?_, ?_⟩
  all_goals
    simp (disch := simp [bytesBE_length, length_packNibbles, hm]) only [Trailer.bytes,
      byteAt_append_left, byteAt_append_right]
    simp only [bytesBE_length, List.length_append, List.length_cons,
      List.length_nil, Nat.reduceAdd, Nat.reduceSub]
    rfl

omit hs in
theorem trailer_maskedBytes : (t.bytes.drop 24).take 10 = packNibbles t.masked := by
  have hlen : (packNibbles t.masked).length = 10 := by rw [length_packNibbles, hm]
  simp [Trailer.bytes, bytesBE_length, List.drop_append, hlen,
    List.drop_of_length_le]

omit hs in
theorem trailer_maskedByte {i : Nat} (hi : i < 10) :
    byteAt t.bytes (24 + i) = t.masked.getD (2 * i) 0#4 ++ t.masked.getD (2 * i + 1) 0#4 := by
  rw [← byteAt_packNibbles _ _ (by omega), ← trailer_maskedBytes hm]
  simp [byteAt, hi]

end

/-- The trailer state that a code names (Table 5-2). -/
def stateOfCode (code : Byte) : TrailerState :=
  if code = 0x01#8 then .inProgress
  else if code = 0x02#8 then .wrapped
  else if code = 0x03#8 then .short
  else if code = 0x04#8 then .torn
  else if code = 0x05#8 then .abandoned
  else if code = 0x06#8 then .expired
  else if code = 0x07#8 then .orphan
  else .fault

theorem stateOfCode_code (x : TrailerState) : stateOfCode x.code = x := by
  cases x <;> rfl

/-- The trailer that 64 bytes tell (Table 13-3). -/
def trailerOf (bytes : List Byte) : Trailer :=
  { state := stateOfCode (byteAt bytes 1)
    window := Fin.ofNat 8 (byteAt bytes 2).toNat
    rejectCount := BitVec.ofNat 4 (byteAt bytes 3).toNat
    flags := BitVec.ofNat 16 (fieldBE bytes 4 2)
    slot := fieldBE bytes 6 2
    keyId := BitVec.ofNat 64 (fieldBE bytes 8 8)
    counter := BitVec.ofNat 32 (fieldBE bytes 16 4)
    digitCount := byteAt bytes 20
    till := byteAt bytes 21
    kind := byteAt bytes 22
    declared := byteAt bytes 23
    masked := ((bytes.drop 24).take 10).flatMap nibblesOfByte
    writerRef := BitVec.ofNat 48 (fieldBE bytes 34 6)
    openTick := BitVec.ofNat 32 (fieldBE bytes 40 4)
    closeTick := BitVec.ofNat 32 (fieldBE bytes 44 4)
    coverage := BitVec.ofNat 32 (fieldBE bytes 48 4)
    wrapSeq := BitVec.ofNat 32 (fieldBE bytes 52 4)
    tag := BitVec.ofNat 64 (fieldBE bytes 56 8) }

theorem trailerOf_bytes {t : Trailer} (hm : t.masked.length = 20) (hs : t.slot < 65536) :
    trailerOf t.bytes = t := by
  obtain ⟨hflags, hslot, hkey, hcounter, hwriter, hopen, hclose, hcov, hseq, htag⟩ :=
    trailer_numbers hm hs
  obtain ⟨-, hstate, hwindow, hreject, hdigits, htill, hkind, hdeclared⟩ := trailer_bytesAlone hm
  simp only [trailerOf, hflags, hslot, hkey, hcounter, hwriter, hopen, hclose, hcov, hseq, htag,
    hstate, hwindow, hreject, hdigits, htill, hkind, hdeclared, stateOfCode_code,
    trailer_maskedBytes hm, flatMap_nibbles_packNibbles _ (by rw [hm]),
    BitVec.ofNat_toNat, BitVec.setWidth_eq]
  rw [show Fin.ofNat 8 t.window.val = t.window from Fin.ofNat_val_eq_self _]

/-- Settles O33: every field is read back from its place, so the bytes tell the trailer. -/
theorem trailerBytesTellEveryField : Obligations.TrailerBytesTellEveryField := by
  intro t hm hs number
  have hlen := length_trailerBytes hm
  have hnumber : ∀ offset n, offset + n ≤ 64 → number offset n = fieldBE t.bytes offset n :=
    fun offset n h => numberAt_eq_fieldBE _ _ _ (hlen ▸ h)
  obtain ⟨hflags, hslot, hkey, hcounter, hwriter, hopen, hclose, hcov, hseq, htag⟩ :=
    trailer_numbers hm hs
  obtain ⟨hformat, hstate, hwindow, hreject, hdigits, htill, hkind, hdeclared⟩ :=
    trailer_bytesAlone hm
  refine ⟨hlen, hformat, hstate, ?_, ?_, ?_⟩
  · rw [hnumber 2 1 (by decide), fieldBE_one _ (by omega), hwindow]
  · rw [hnumber 3 1 (by decide), fieldBE_one _ (by omega), hreject]
  · rw [hnumber 4 2 (by decide), hnumber 6 2 (by decide), hnumber 8 8 (by decide),
      hnumber 16 4 (by decide), hnumber 34 6 (by decide), hnumber 40 4 (by decide),
      hnumber 44 4 (by decide), hnumber 48 4 (by decide), hnumber 52 4 (by decide),
      hnumber 56 8 (by decide)]
    refine ⟨hflags, hslot, hkey, hcounter, hdigits, htill, hkind, hdeclared,
      fun i hi => trailer_maskedByte hm hi, hwriter, hopen, hclose, hcov, hseq, htag,
      fun u hum hus h => ?_⟩
    rw [← trailerOf_bytes hm hs, h, trailerOf_bytes hum hus]

end Sys2Proof.Machine
end

section
/-! SUPPORT. The frames of the management link (section 12): the bytes of each frame, and the frames that
are refused. -/

namespace Sys2Proof.Machine

/-! ### The key block of a frame (Table 13-5) -/

theorem length_keyBlockBytes (b : KeyBlock) : (keyBlockBytes b).length = 36 := by
  simp [keyBlockBytes, bytesBE_length]

theorem keyBlock_numbers (b : KeyBlock) :
    fieldBE (keyBlockBytes b) 0 8 = b.keyId.toNat ∧
      fieldBE (keyBlockBytes b) 8 4 = b.start.toNat ∧
      fieldBE (keyBlockBytes b) 12 4 = b.limit.toNat ∧
      fieldBE (keyBlockBytes b) 16 16 = b.enciphered.toNat ∧
      fieldBE (keyBlockBytes b) 32 3 = b.check.toNat := by
  refine ⟨?_, ?_, ?_, ?_, ?_⟩
  all_goals
    simp (disch := simp [bytesBE_length]) only [keyBlockBytes, fieldBE_append_left,
      fieldBE_append_right, bytesBE_length, List.length_append, Nat.reduceAdd, Nat.reduceSub]
    refine fieldBE_bytesBE ?_
  · exact b.keyId.isLt
  · exact b.start.isLt
  · exact b.limit.isLt
  · exact b.enciphered.isLt
  · exact b.check.isLt

theorem keyBlock_unread (b : KeyBlock) : byteAt (keyBlockBytes b) 35 = b.unread := by
  rw [keyBlockBytes, byteAt_append_right (by simp [bytesBE_length])]
  simp [bytesBE_length, byteAt]

theorem keyBlockOf_keyBlockBytes (b : KeyBlock) : keyBlockOf (keyBlockBytes b) = b := by
  obtain ⟨hkey, hstart, hlimit, henciphered, hcheck⟩ := keyBlock_numbers b
  simp only [keyBlockOf, hkey, hstart, hlimit, henciphered, hcheck, keyBlock_unread,
    BitVec.ofNat_toNat, BitVec.setWidth_eq]

/-! ### Frames and the commands they name (R174, R175) -/

theorem frameAccepted_keyLoad (p : Byte) (b : KeyBlock) :
    frameAccepted (0x10#8 :: 0x25#8 :: p :: keyBlockBytes b) = true := by
  simp [frameAccepted, parameterLength, length_keyBlockBytes]

theorem commandOfFrame_keyLoad (p : Byte) (b : KeyBlock) :
    commandOfFrame (0x10#8 :: 0x25#8 :: p :: keyBlockBytes b) = some (.keyLoad p b) := by
  rw [commandOfFrame, if_pos (frameAccepted_keyLoad p b)]
  show some (Instr.keyLoad p (keyBlockOf (keyBlockBytes b))) = _
  rw [keyBlockOf_keyBlockBytes]

/-- A frame is either the bytes of a BAD_FRAME or an accepted one, which names its command. -/
theorem frameBytes_cases {c : Instr} {bytes : List Byte} (h : frameBytes c = some bytes) :
    c = .badFrame bytes ∨
      (∀ b, c ≠ .badFrame b) ∧ frameAccepted bytes = true ∧ commandOfFrame bytes = some c := by
  unfold frameBytes at h
  split at h <;> cases h
  case h_4 p b => exact .inr ⟨nofun, frameAccepted_keyLoad p b, commandOfFrame_keyLoad p b⟩
  case h_12 => exact .inl rfl
  all_goals exact .inr ⟨nofun, rfl, rfl⟩

theorem commandOfFrame_badFrame {bytes : List Byte} (hne : bytes ≠ [])
    (hb : frameAccepted bytes = false) : commandOfFrame bytes = some (.badFrame bytes) := by
  cases bytes with
  | nil => exact absurd rfl hne
  | cons code rest => rw [commandOfFrame, hb, if_neg Bool.false_ne_true]

/-- Settles O54. -/
theorem frameBytesNameTheirCommand : Obligations.FrameBytesNameTheirCommand := by
  refine ⟨⟨rfl, rfl, rfl⟩, fun n => rfl, fun position b => ?_, fun c bytes hc h => ⟨?_, ?_, ?_⟩⟩
  · obtain ⟨hkey, hstart, hlimit, henciphered, hcheck⟩ := keyBlock_numbers b
    have hlen := length_keyBlockBytes b
    have hnumber : ∀ offset n, offset + n ≤ 36 →
        numberAt (keyBlockBytes b) offset n = fieldBE (keyBlockBytes b) offset n :=
      fun offset n h => numberAt_eq_fieldBE _ _ _ (hlen ▸ h)
    exact ⟨keyBlockBytes b, rfl, hlen, (hnumber 0 8 (by decide)).trans hkey,
      (hnumber 8 4 (by decide)).trans hstart, (hnumber 12 4 (by decide)).trans hlimit,
      (hnumber 16 16 (by decide)).trans henciphered, (hnumber 32 3 (by decide)).trans hcheck,
      keyBlock_unread b⟩
  · rw [writeTransaction, if_pos (show 0x36#7 = linkAddress from rfl)]
    obtain rfl | ⟨-, -, hnamed⟩ := frameBytes_cases h
    · obtain ⟨hne, hb⟩ : bytes ≠ [] ∧ frameAccepted bytes = false := by
        simpa [Instr.wellFormed] using hc
      exact commandOfFrame_badFrame hne hb
    · exact hnamed
  · exact fun address haddress => if_neg haddress
  · obtain rfl | ⟨hne, haccepted, -⟩ := frameBytes_cases h
    · have hb : frameAccepted bytes = false := by
        simp only [Instr.wellFormed, Bool.and_eq_true, Bool.not_eq_true'] at hc
        exact hc.2
      exact iff_of_false (by rw [hb]; decide) fun hall => hall bytes rfl
    · exact iff_of_true haccepted hne

/-! ### Frames that are not carried out (R156, R174, R175, R177) -/

/-- Every command with a frame is a frame's end, told apart by its code. -/
theorem exec_frame {c : Instr} {code : Byte} {params : List Byte} (hc : c.wellFormed = true)
    (h : frameBytes c = some (code :: params)) :
    ∃ carry : State → State, (∀ s, exec c s = .next (frameEnds code carry s)) ∧
      (c = .badFrame (code :: params) → carry = answer .badFrame code) := by
  unfold frameBytes at h
  split at h <;> cases h
  case h_12 =>
    have hb : frameAccepted (code :: params) = false := by
      simpa [Instr.wellFormed] using hc
    refine ⟨answer .badFrame code, fun s => ?_, fun _ => rfl⟩
    show execBadFrame (code :: params) s = _
    simp only [execBadFrame, hb, Bool.false_eq_true, ↓reduceIte]
  all_goals exact ⟨_, fun s => rfl, nofun⟩

/-- Settles O52. -/
theorem busyAndBadFrames : Obligations.BusyAndBadFrames := by
  intro c code params s hc h
  obtain ⟨carry, hexec, hbad⟩ := exec_frame hc h
  rw [hexec]
  refine ⟨fun hout => ?_, fun hstate hclock hmark => ?_, fun hl hb => ?_⟩
  · rw [frameEnds_unanswered _ _ _ hout]
  · rw [frameEnds_busy _ _ _ hstate hclock hmark]
  · rw [hbad hb, frameEnds_free _ _ _ hl]
    rfl

/-! ### Refusals by range and by part state (R178, Table 12-3) -/

theorem onWindow_of_le {b : Byte} (hb : 8 ≤ b.toNat) (code : Byte) (carry : Fin 8 → State → State)
    (s : State) : onWindow b code carry s = answer .badParam code s :=
  dif_neg (Nat.not_lt.2 hb)

section
variable {s : State} (hl : LinkFree s) {n code : Byte} {w : Fin 8} {permitted : PartState → Bool}
  {carry : Fin 8 → State → State}
include hl

theorem frameEnds_badWindow (hn : 8 ≤ n.toNat) :
    frameEnds code (onWindow n code carry) s = { s with link := answered s .badParam code } := by
  rw [frameEnds_free _ _ _ hl, onWindow_of_le hn]
  rfl

theorem frameEnds_badPosition {carry : Fin 16 → State → State} (hn : 16 ≤ n.toNat) :
    frameEnds code (onPosition n code carry) s = { s with link := answered s .badParam code } := by
  rw [frameEnds_free _ _ _ hl, onPosition_of_le hn]
  rfl

theorem frameEnds_disabledWindow (hw : w.val = n.toNat) (hr : HoldsRecords s) (hd : ¬ Enabled s w) :
    frameEnds code (onWindow n code fun w => unlessDisabled w code (carry w)) s =
      { s with link := answered s .badParam code } := by
  rw [frameEnds_free _ _ _ hl, onWindow_of_val hw, unlessDisabled_eq]
  exact if_pos ⟨hr, hd⟩

/-- The part state refuses a window command, be it that no record is loaded or that its window is
enabled. -/
theorem frameEnds_notActiveWindow (hw : w.val = n.toNat) (he : HoldsRecords s → Enabled s w)
    (hp : permitted s.part.state = false) :
    frameEnds code
        (onWindow n code fun w => unlessDisabled w code (whenPermitted permitted code (carry w))) s =
      { s with link := answered s .notActive code } := by
  rw [frameEnds_free _ _ _ hl, onWindow_of_val hw, unlessDisabled_eq]
  refine (if_neg fun ⟨hr, hd⟩ => hd (he hr)).trans ?_
  exact if_neg (Bool.eq_false_iff.1 hp)

theorem frameEnds_windowNotPermitted (hw : w.val = n.toNat) (hp : permitted s.part.state = false) :
    frameEnds code (onWindow n code fun w => whenPermitted permitted code (carry w)) s =
      { s with link := answered s .notActive code } := by
  rw [frameEnds_free _ _ _ hl, onWindow_of_val hw]
  exact if_neg (Bool.eq_false_iff.1 hp)

theorem frameEnds_positionNotPermitted {carry : Fin 16 → State → State} (hn : n.toNat < 16)
    (hp : permitted s.part.state = false) :
    frameEnds code (onPosition n code fun p => whenPermitted permitted code (carry p)) s =
      { s with link := answered s .notActive code } := by
  rw [frameEnds_free _ _ _ hl, onPosition_of_val (p := ⟨n.toNat, hn⟩) rfl]
  exact if_neg (Bool.eq_false_iff.1 hp)

end

/-- Settles O53: each command's tests stand in the order of its frame's end. -/
theorem rangeAndStateRefusals : Obligations.RangeAndStateRefusals := by
  intro s hl refused
  have hrecords : ¬ HoldsRecords s → s.part.state.holdsRecords = false :=
    fun h => Bool.eq_false_iff.2 (mt (holdsRecords_iff s).1 h)
  have hactive : s.part.state ≠ .active → inActive s.part.state = false :=
    fun h => Bool.eq_false_iff.2 (mt (inActive_iff _).1 h)
  refine ⟨fun n hn => ⟨?_, ?_, ?_, ?_⟩, fun n hn => ⟨?_, ?_⟩,
    fun n w hw => ⟨fun hr hd => ⟨?_, ?_, ?_⟩, fun hr => ⟨?_, ?_, ?_, ?_⟩, fun hs he => ?_⟩,
    fun n hn => ⟨fun hr => ?_, fun ha hf => ?_⟩⟩
  iterate 4 exact congrArg Host.Outcome.next (frameEnds_badWindow hl hn)
  iterate 2 exact congrArg Host.Outcome.next (frameEnds_badPosition hl hn)
  iterate 3 exact congrArg Host.Outcome.next (frameEnds_disabledWindow hl hw hr hd)
  · exact congrArg Host.Outcome.next (frameEnds_windowNotPermitted hl hw (hrecords hr))
  · exact congrArg Host.Outcome.next (frameEnds_notActiveWindow hl hw (absurd · hr)
      (hactive fun h => hr (.inr (.inl h))))
  · exact congrArg Host.Outcome.next (frameEnds_notActiveWindow hl hw (absurd · hr) (hrecords hr))
  · exact congrArg Host.Outcome.next (frameEnds_notActiveWindow hl hw (absurd · hr) (hrecords hr))
  · refine congrArg Host.Outcome.next (frameEnds_notActiveWindow hl hw (fun _ => he) (hactive fun h => ?_))
    rw [h] at hs
    exact absurd hs (by decide)
  · exact congrArg Host.Outcome.next (frameEnds_positionNotPermitted hl hn (hrecords hr))
  · refine congrArg Host.Outcome.next (frameEnds_positionNotPermitted hl hn ?_)
    exact Bool.eq_false_iff.2 fun h => ((inActiveOrFault_iff _).1 h).elim ha hf

end Sys2Proof.Machine
end

section
/-! SUPPORT. The block cipher undone (section 7): each layer of a round has its inverse. -/

namespace Sys2Proof.Machine

/-! ### Substitution and row shift -/

theorem invSubByte_subByte : ∀ x : Byte, invSubByte (subByte x) = x := by decide +kernel

theorem column_unsub_sub (x : Column) : (x.map subByte).map invSubByte = x := by
  simp only [Column.map, invSubByte_subByte]

theorem unsub_sub (x : CipherArray) :
    (x.map (Column.map subByte)).map (Column.map invSubByte) = x := by
  simp only [CipherArray.map, column_unsub_sub]

theorem unshift_shift (x : CipherArray) : x.shift.unshift = x := rfl

/-! ### Column mixing -/

/-- The reduction of a shifted byte depends on its top bit alone. -/
theorem xtime_eq (x : Byte) : xtime x = x <<< 1 ^^^ (if x.msb then 0x1B#8 else 0#8) := by
  unfold xtime
  split
  · rfl
  · rw [BitVec.xor_zero]

theorem xtime_xor (x y : Byte) : xtime (x ^^^ y) = xtime x ^^^ xtime y := by
  have hreduce : (if (x ^^^ y).msb then 0x1B#8 else 0#8) =
      (if x.msb then 0x1B#8 else 0#8) ^^^ (if y.msb then 0x1B#8 else 0#8) := by
    rw [BitVec.msb_xor]
    cases x.msb <;> cases y.msb <;> rfl
  rw [xtime_eq, xtime_eq, xtime_eq, BitVec.shiftLeft_xor_distrib, hreduce]
  ac_rfl

theorem xor_left_comm (x y z : Byte) : x ^^^ (y ^^^ z) = y ^^^ (x ^^^ z) := by
  rw [← BitVec.xor_assoc, BitVec.xor_comm x, BitVec.xor_assoc]

theorem xor_cancel (x y : Byte) : x ^^^ (x ^^^ y) = y := by
  rw [← BitVec.xor_assoc, BitVec.xor_self, BitVec.zero_xor]

/-- The sum of a column's bytes, which mixing keeps. -/
def Column.sum (x : Column) : Byte := x.a ^^^ x.b ^^^ x.c ^^^ x.d

/-- A column with each byte changed by its own byte and two values, one for each row parity. -/
def Column.addPair (x : Column) (u v : Byte) : Column :=
  { a := x.a ^^^ u, b := x.b ^^^ v, c := x.c ^^^ u, d := x.d ^^^ v }

/-- Two mixings in a row: multiplication by the circulant of 5, 0, 4, 0. -/
def Column.mixTwice (x : Column) : Column :=
  x.addPair (xtime (xtime (x.a ^^^ x.c))) (xtime (xtime (x.b ^^^ x.d)))

theorem mix_eq (x : Column) :
    x.mix =
      { a := x.a ^^^ (x.sum ^^^ xtime (x.a ^^^ x.b))
        b := x.b ^^^ (x.sum ^^^ xtime (x.b ^^^ x.c))
        c := x.c ^^^ (x.sum ^^^ xtime (x.c ^^^ x.d))
        d := x.d ^^^ (x.sum ^^^ xtime (x.d ^^^ x.a)) } := by
  simp only [Column.mix, Column.sum, xtime_xor, BitVec.xor_assoc, BitVec.xor_comm,
    xor_left_comm, xor_cancel]

theorem sum_mix (x : Column) : x.mix.sum = x.sum := by
  simp only [Column.mix, Column.sum, BitVec.xor_assoc, BitVec.xor_comm,
    xor_left_comm, xor_cancel, BitVec.xor_self, BitVec.xor_zero]

/-- Two bytes of a mixed column differ as before, but for the doubled difference of the outer two. -/
theorem mixed_xor_mixed (a b c t : Byte) :
    (a ^^^ (t ^^^ xtime (a ^^^ b))) ^^^ (b ^^^ (t ^^^ xtime (b ^^^ c))) =
      (a ^^^ b) ^^^ xtime (a ^^^ c) := by
  simp only [xtime_xor, BitVec.xor_assoc, xor_left_comm, xor_cancel]

theorem mixed_again (a b e t : Byte) :
    (a ^^^ (t ^^^ xtime b)) ^^^ (t ^^^ xtime (b ^^^ xtime e)) = a ^^^ xtime (xtime e) := by
  simp only [xtime_xor, BitVec.xor_assoc, xor_left_comm, xor_cancel]

theorem mix_mix (x : Column) : x.mix.mix = x.mixTwice := by
  rw [mix_eq x.mix, sum_mix, mix_eq x]
  simp only [mixed_xor_mixed, mixed_again]
  rw [Column.mixTwice, Column.addPair, BitVec.xor_comm x.c x.a, BitVec.xor_comm x.d x.b]

theorem mixTwice_mixTwice (x : Column) : x.mixTwice.mixTwice = x := by
  simp only [Column.mixTwice, Column.addPair, xtime_xor, BitVec.xor_assoc, BitVec.xor_comm,
    xor_left_comm, BitVec.xor_self, BitVec.xor_zero]

theorem sum_addPair (x : Column) (u v : Byte) : (x.addPair u v).sum = x.sum := by
  simp only [Column.addPair, Column.sum, BitVec.xor_assoc, BitVec.xor_comm, xor_left_comm,
    xor_cancel]

/-- 14, 11, 13 and 9 are 9 with 7, 2, 4 and 0 added. -/
theorem unmix_eq (x : Column) : x.unmix = x.mixTwice.mix := by
  rw [mix_eq, Column.mixTwice, sum_addPair]
  simp only [Column.unmix, Column.addPair, Column.sum, times9, times11, times13, times14, xtime_xor,
    BitVec.xor_assoc, BitVec.xor_comm, xor_left_comm, xor_cancel]

/-- Four mixings in a row give a column back, and the inverse mixing is three of them. -/
theorem unmix_mix (x : Column) : x.mix.unmix = x := by
  rw [unmix_eq, ← mix_mix, mix_mix x.mix.mix, mix_mix, mixTwice_mixTwice]

theorem array_unmix_mix (x : CipherArray) : (x.map Column.mix).map Column.unmix = x := by
  simp only [CipherArray.map, unmix_mix]

/-! ### Round keys -/

theorem column_add_add (x k : Column) : (x.add k).add k = x := by
  simp only [Column.add, BitVec.xor_assoc, BitVec.xor_self, BitVec.xor_zero]

theorem add_add (x k : CipherArray) : (x.add k).add k = x := by
  simp only [CipherArray.add, column_add_add]

theorem cipherUnrounds_cipherRounds : ∀ (keys : List CipherArray) (x : CipherArray),
    cipherUnrounds keys (cipherRounds keys x) = x
  | [], _ => rfl
  | [k], x => by
    rw [cipherRounds, cipherUnrounds, add_add, unshift_shift, unsub_sub]
  | k :: k' :: rest, x => by
    rw [cipherRounds, cipherUnrounds, cipherUnrounds_cipherRounds (k' :: rest), add_add,
      array_unmix_mix, unshift_shift, unsub_sub]
    · exact nofun
    · exact nofun

/-! ### Blocks and arrays -/

theorem extract_four {n : Nat} {w : Nat} (x : BitVec w) (start : Nat) :
    (x.extractLsb' (start + n + n + n) n ++ x.extractLsb' (start + n + n) n ++
        x.extractLsb' (start + n) n ++ x.extractLsb' start n) =
      x.extractLsb' start (n + n + n + n) := by
  rw [BitVec.extractLsb'_append_extractLsb'_eq_extractLsb' rfl,
    BitVec.extractLsb'_append_extractLsb'_eq_extractLsb' rfl,
    BitVec.extractLsb'_append_extractLsb'_eq_extractLsb' rfl]

theorem blockOfArray_arrayOfBlock (x : Block) : blockOfArray (arrayOfBlock x) = x := by
  have h0 : (arrayOfBlock x).c0.word = x.extractLsb' 96 32 := extract_four (n := 8) x 96
  have h1 : (arrayOfBlock x).c1.word = x.extractLsb' 64 32 := extract_four (n := 8) x 64
  have h2 : (arrayOfBlock x).c2.word = x.extractLsb' 32 32 := extract_four (n := 8) x 32
  have h3 : (arrayOfBlock x).c3.word = x.extractLsb' 0 32 := extract_four (n := 8) x 0
  rw [blockOfArray, h0, h1, h2, h3]
  exact (extract_four (n := 32) x 0).trans BitVec.extractLsb'_eq_self

/-- Four parts of one width, put side by side, are read back by their offsets. -/
theorem extract_of_four {n m : Nat} (a b c d : BitVec n) {start : Nat} (h : start + m ≤ n) :
    (a ++ b ++ c ++ d).extractLsb' (n + n + n + start) m = a.extractLsb' start m ∧
      (a ++ b ++ c ++ d).extractLsb' (n + n + start) m = b.extractLsb' start m ∧
      (a ++ b ++ c ++ d).extractLsb' (n + start) m = c.extractLsb' start m ∧
      (a ++ b ++ c ++ d).extractLsb' start m = d.extractLsb' start m := by
  have hlow : ∀ {v : Nat} (x : BitVec v) (y : BitVec n),
      (x ++ y).extractLsb' start m = y.extractLsb' start m :=
    fun _ _ => BitVec.extractLsb'_append_eq_of_add_le h
  have hhigh : ∀ {v k : Nat} (x : BitVec v) (y : BitVec n),
      (x ++ y).extractLsb' (n + k) m = x.extractLsb' k m := fun {v k} x y => by
    rw [BitVec.extractLsb'_append_eq_of_le (Nat.le_add_right n k), Nat.add_sub_cancel_left]
  simp only [Nat.add_assoc n, hhigh, hlow, and_self]

theorem extract_word (x : Column) :
    x.word.extractLsb' 24 8 = x.a ∧ x.word.extractLsb' 16 8 = x.b ∧
      x.word.extractLsb' 8 8 = x.c ∧ x.word.extractLsb' 0 8 = x.d := by
  obtain ⟨ha, hb, hc, hd⟩ := extract_of_four x.a x.b x.c x.d (start := 0) (m := 8) (by decide)
  exact ⟨ha.trans BitVec.extractLsb'_eq_self, hb.trans BitVec.extractLsb'_eq_self,
    hc.trans BitVec.extractLsb'_eq_self, hd.trans BitVec.extractLsb'_eq_self⟩

/-- A column whose bytes are those of a word is the column of the word. -/
theorem column_of_word {x y : Column} (ha : y.a = x.word.extractLsb' 24 8)
    (hb : y.b = x.word.extractLsb' 16 8) (hc : y.c = x.word.extractLsb' 8 8)
    (hd : y.d = x.word.extractLsb' 0 8) : y = x := by
  obtain ⟨ha', hb', hc', hd'⟩ := extract_word x
  cases y
  simp only [ha', hb', hc', hd'] at ha hb hc hd
  rw [ha, hb, hc, hd]

theorem arrayOfBlock_blockOfArray (x : CipherArray) : arrayOfBlock (blockOfArray x) = x := by
  have hword : ∀ start, start + 8 ≤ 32 → _ := fun start h =>
    extract_of_four x.c0.word x.c1.word x.c2.word x.c3.word (start := start) (m := 8) h
  obtain ⟨h0a, h1a, h2a, h3a⟩ := hword 24 (by decide)
  obtain ⟨h0b, h1b, h2b, h3b⟩ := hword 16 (by decide)
  obtain ⟨h0c, h1c, h2c, h3c⟩ := hword 8 (by decide)
  obtain ⟨h0d, h1d, h2d, h3d⟩ := hword 0 (by decide)
  have h0 : (arrayOfBlock (blockOfArray x)).c0 = x.c0 := column_of_word h0a h0b h0c h0d
  have h1 : (arrayOfBlock (blockOfArray x)).c1 = x.c1 := column_of_word h1a h1b h1c h1d
  have h2 : (arrayOfBlock (blockOfArray x)).c2 = x.c2 := column_of_word h2a h2b h2c h2d
  have h3 : (arrayOfBlock (blockOfArray x)).c3 = x.c3 := column_of_word h3a h3b h3c h3d
  exact congr (congr (congr (congrArg CipherArray.mk h0) h1) h2) h3

/-! ### The cipher (R116, R118) -/

theorem decipher_encipher (key x : Block) : decipher key (encipher key x) = x := by
  rw [decipher, encipher]
  simp only [arrayOfBlock_blockOfArray, cipherUnrounds_cipherRounds, add_add,
    blockOfArray_arrayOfBlock]

/-- Blocks are finitely many, so the cipher, which is one-to-one, is onto. -/
theorem encipher_decipher (key x : Block) : encipher key (decipher key x) = x := by
  have hleft : Function.LeftInverse (decipher key) (encipher key) := decipher_encipher key
  exact hleft.rightInverse_of_surjective (Finite.surjective_of_injective hleft.injective) x

/-- Settles O37. -/
theorem cipherIsAPermutation : Obligations.CipherIsAPermutation :=
  fun key x => ⟨decipher_encipher key x, encipher_decipher key x, decipher_encipher key x⟩

end Sys2Proof.Machine
end

section
/-! SUPPORT. What a command can do, said once for the invariants and the rules of the whole part: one
constructor for each kind of change, beside changes that the invariants do not read. -/

namespace Sys2Proof.Machine

/-! ### A context in its window (R47, R66, R69) -/

/-- The context lies in a slot of an enabled window, covers no block at or above the body capacity, and
has an inspection result exactly when block 0 is covered. -/
def ContextFits (s : State) (c : Context) : Prop :=
  ∃ r ∈ s.windows[c.window].record,
    r.enabled = true ∧ c.slot < r.slots ∧
      (∀ j : Nat, r.capacity ≤ j → c.coverage.getLsbD j = false) ∧
      c.inspection.isSome = c.coverage.getLsbD 0

/-- Every enabled record is well formed (R45). -/
def RecordsHold (s : State) : Prop :=
  ∀ (w : Fin 8) (r : WindowRecord), s.windows[w].record = some r → r.enabled = true →
    r.wellFormed = true

theorem getLsbD_coverWith (coverage : BitVec 32) (blocks : List BodyBlock) {j : Nat} (hj : j < 32) :
    (coverWith coverage blocks).getLsbD j =
      (coverage.getLsbD j || blocks.any fun b => b.number == j) := by
  induction blocks generalizing coverage with
  | nil => simp [coverWith]
  | cons b blocks ih =>
    have hbit : (1#32 <<< b.number).getLsbD j = (b.number == j) := by
      rw [BitVec.getLsbD_shiftLeft, BitVec.getLsbD_one]
      by_cases h : b.number = j
      · simp [h, hj]
      · simp only [beq_eq_false_iff_ne.2 h, hj, decide_true, Bool.true_and]
        simp
        omega
    rw [List.any_cons, ← Bool.or_assoc, ← hbit, ← BitVec.getLsbD_or]
    exact ih _

theorem isSome_inspectionAfter (inspects : Bool) (before : Option Inspection)
    (blocks : List BodyBlock) :
    (inspectionAfter inspects before blocks).isSome =
      (before.isSome || blocks.any fun b => b.number == 0) := by
  have hfind : (blocks.any fun b => b.number == 0) =
      (blocks.find? fun b => b.number == 0).isSome := by
    rw [Bool.eq_iff_iff, List.find?_isSome, List.any_eq_true]
  rw [hfind, inspectionAfter]
  cases blocks.find? fun b => b.number == 0 <;> simp

/-- Blocks taken below the body capacity leave a context fitting; block 0 brings its result along. -/
theorem contextFits_afterBurst {s : State} {c : Context} {r : WindowRecord} (inspects : Bool)
    (now : Tick) {blocks : List BodyBlock} (hrec : s.windows[c.window].record = some r)
    (hfits : ContextFits s c) (hb : ∀ b ∈ blocks, b.number < r.capacity) :
    ContextFits s (c.afterBurst inspects now blocks) := by
  obtain ⟨r', hr', he, hslot, hcover, hinsp⟩ := hfits
  obtain rfl : r' = r := Option.some.inj (hr'.symm.trans hrec)
  refine ⟨r', hr', he, hslot, fun j hj => ?_, ?_⟩
  · by_cases hj32 : j < 32
    · have hnone : ((c.fresh blocks).any fun b => b.number == j) = false :=
        List.any_eq_false.2 fun b hmem heq => by
          have := hb b (List.mem_filter.1 hmem).1
          have := beq_iff_eq.1 heq
          omega
      show (coverWith c.coverage (c.fresh blocks)).getLsbD j = false
      rw [getLsbD_coverWith _ _ hj32, hcover j hj, hnone, Bool.or_false]
    · exact BitVec.getLsbD_of_ge _ _ (by omega)
  · show (inspectionAfter inspects c.inspection (c.fresh blocks)).isSome =
      (coverWith c.coverage (c.fresh blocks)).getLsbD 0
    rw [isSome_inspectionAfter, getLsbD_coverWith _ _ (by decide), hinsp]

theorem bodyBlocks_below {d : BurstDesc} {burst : WireBurst} {p : Nat} {b : BodyBlock}
    (h : b ∈ bodyBlocks d burst p) : b.number ≤ 4 * p + 3 := by
  have hnumber : b.number ∈ (bodyBlocks d burst p).map (·.number) := List.mem_map_of_mem h
  rw [bodyBlocks_numbers] at hnumber
  obtain ⟨i, hi, hb⟩ := List.mem_map.1 hnumber
  have hlt : i < d.extent.beats / 2 := List.mem_range.1 hi
  revert hlt hb
  cases d.extent <;> simp only [Extent.beats, Extent.firstBeat] <;> omega

/-- What a body burst's placement says where the record is well formed (R46, R47). -/
theorem placed_body {s : State} {line : Nat} {pl : Placement} (hp : placeLine s line = some pl)
    (hbody : pl.isTrailer = false) (hrecords : RecordsHold s) :
    pl.slot < pl.record.slots ∧ 4 * pl.pos + 3 < pl.record.capacity := by
  obtain ⟨hrec, he, -, -, -, -, hwell⟩ := linePlacement.1 s line pl hp
  obtain ⟨-, hslot, -, -, hcap⟩ := hwell (hrecords _ _ hrec he)
  exact ⟨hslot, hcap hbody⟩

/-! ### The changes -/

/-- A change of the contexts in their places: each keeps its window and slot, and takes its counter and
its fit from a context that stands there. -/
def Rewrites (s : State) (f : Context → Context) : Prop :=
  ∀ x ∈ s.contexts, (f x).window = x.window ∧ (f x).slot = x.slot ∧
    ∃ y ∈ s.contexts, y.window = x.window ∧ y.slot = x.slot ∧ y.counter = (f x).counter ∧
      (RecordsHold s → ContextFits s y → ContextFits s (f x))

/-- The opening tests pass for a placement, and the context opens with the pool head (R60, R62). -/
structure Opens (s : State) (pl : Placement) (p : Fin 16) (e : PoolEntry) (tail : List PoolEntry)
    (c : Context) : Prop where
  active : s.part.state = .active
  unfrozen : s.windows[pl.window].freeze.frozen = false
  noContext : NoContext s pl
  room : s.contexts.length < 32
  owner : ownerWindow p = pl.window
  inUse : s.store.positions[p].state = .active
  head : s.pools[p] = e :: tail
  window : c.window = pl.window
  slot : c.slot = pl.slot
  fits : RecordsHold s → ContextFits s c

/-- The derivation unit with its operation ended (R126). -/
def unitFreed (s : State) : State := { s with derivation.inFlight := none }

/-- What a command changes of what the invariants read. -/
inductive Change : Instr → State → State → Prop
  | nothing {c s} : Change c s s
  | rewritten {s burst} (f : Context → Context) (h : Rewrites s f) :
    Change (.writeDataBurst burst) s { s with contexts := s.contexts.map f }
  | opened {s burst pl p e tail c} (low : Bool) (h : Opens s pl p e tail c) :
    Change (.writeDataBurst burst) s (takeUpNext (spentTest p (headDrawn s pl p tail c low)))
  | closed {s burst} (w : Fin 8) (slot : Nat) (seq : BitVec 32)
    (h : seq = s.store.wrapSeq[w] ∨ seq = s.store.wrapSeq[w] + 1) :
    Change (.writeDataBurst burst) s
      { s with
        contexts := removeContext w slot s.contexts
        store.wrapSeq := s.store.wrapSeq.set w seq }
  | reported {s burst} (w : Fin 8) (slot : Nat) :
    Change (.writeDataBurst burst) s { s with expired := withoutNewest s.expired w slot }
  | ended {c s} (picked : Context → Bool) (cause : EndCause) (time : TimeBase)
    (hpast : PastLoading s) (hsetting : time.prescaler = s.time.prescaler)
    (hcount : time.count ≤ s.time.count) : Change c s (endContexts picked cause { s with time := time })
  | reset {s} (fate : StoreFate) :
    Change (.partReset fate) s
      { State.reset with
        store := storeAfter s fate, transportKey := s.transportKey, inputs := s.inputs
        pending := s.pending }
  | released {s} (h : s.part.state = .reset) : Change .partResetRelease s (beginLoading s)
  | releasedInTamper {s} (h : s.part.state = .reset) :
    Change .partResetRelease s (beginLoading (takeTamper s))
  | left {s image} (outcome : ImageOutcome) (h : s.part.state = .loading)
    (hvalid : outcome = .valid → s.loader.workingCopy.length = 138 ∧
      checkImage s.loader.workingCopy = .valid) :
    Change (.imageTransferComplete image) s (leaveLoading outcome s)
  | failedTest {s} (h : s.part.state = .selfTest) :
    Change (.knownAnswerTestComplete false) s (enterFault (unitFreed s))
  | storeLost {s} (h : s.part.state = .selfTest) (hmarker : s.store.marker = false) :
    Change (.knownAnswerTestComplete true) s (enterActive .lost (loseStore (unitFreed s)))
  | searched {s c} (start : Nat) (h : s.part.state = .selfTest)
    (hc : c = .knownAnswerTestComplete true ∨ c = .checkValueRecomputationComplete) :
    Change c s (checkFrom start (unitFreed s))
  | searchedPast {s} (p : Fin 16) (h : s.part.state = .selfTest) :
    Change .checkValueRecomputationComplete s
      (checkFrom (p.val + 1) (erasePosition p (unitFreed s)))
  | refilled {s p n g key} (h : s.derivation.inFlight = some (.refill p n g key)) :
    Change .refillCompletion s
      (takeUpNext (spentTest p (applyRefill p n g key (unitFreed s))))
  | unwrapped {s p block} (h : s.derivation.inFlight = some (.unwrap p block)) :
    Change .keyLoadUnwrapCompletion s (takeUpNext (judgeLoad p block (unitFreed s)))
  | tampered {s} (h : s.part.state ≠ .reset) : Change .tamper s (takeTamper s)
  | accepted {s position p block} (h : s.part.state = .active)
    (hmark : s.link.loadInProgress = false) (hlatch : s.store.latch = false)
    (hload : LoadFits s p block) : Change (.keyLoad position block) s (acceptLoad p block s)
  | erased {s position} (p : Fin 16) (h : s.part.state = .active ∨ s.part.state = .fault) :
    Change (.keyErase position) s (eraseKey p s)
  | switched {s window p} (h : s.part.state = .active)
    (hactive : s.store.positions[p].state = .active)
    (hready : s.store.positions[partner p].state = .ready) :
    Change (.keySwitch window) s (switchKey p s)
  | cleared {s} : Change .tamperClear s (clearTamper s)

/-- A command's effect: a change, with changes before and after it that the invariants do not read; those
before it leave the window table as it is. -/
def Effect (c : Instr) (s t : State) : Prop :=
  ∃ u v, (Alike s u ∧ u.windows = s.windows) ∧ Change c u v ∧ Alike v t

theorem effect_of_alike {c : Instr} {s t : State} (h : Alike s t) : Effect c s t :=
  ⟨s, s, ⟨Alike.refl s, rfl⟩, .nothing, h⟩

theorem effect_of_change {c : Instr} {s t : State} (h : Change c s t) : Effect c s t :=
  ⟨s, t, ⟨Alike.refl s, rfl⟩, h, Alike.refl t⟩

/-! ### Write bursts -/

theorem treatmentOf_eq_body {place : Option Placement} {pl : Placement}
    (h : treatmentOf place = .body pl) : place = some pl ∧ pl.isTrailer = false := by
  cases place with
  | none => exact nomatch h
  | some q =>
    rw [treatmentOf] at h
    split at h
    · exact nomatch h
    · next ht =>
      cases h
      exact ⟨rfl, Bool.eq_false_iff.2 ht⟩

theorem classify_eq_body {s : State} {d : BurstDesc} {pl : Placement}
    (h : classify s d = .body pl) :
    ∃ line, placeLine s line = some pl ∧ pl.isTrailer = false := by
  unfold classify at h
  split at h
  · exact nomatch h
  · split at h
    · exact nomatch h
    · exact nomatch h
    · exact ⟨_, treatmentOf_eq_body h⟩

theorem rewrites_countReject (s : State) (w : Fin 8) (slot : Nat) :
    Rewrites s fun c => if c.isFor w slot then { c with rejectCount := satInc c.rejectCount } else c := by
  intro x hx
  dsimp only
  split
  · exact ⟨rfl, rfl, x, hx, rfl, rfl, rfl, fun _ h => h⟩
  · exact ⟨rfl, rfl, x, hx, rfl, rfl, rfl, fun _ h => h⟩

theorem record_congr (s : State) {v w : Fin 8} (h : v = w) :
    s.windows[v].record = s.windows[w].record := by
  subst h
  rfl

theorem rewrites_afterBurst {s : State} {pl : Placement} {c : Context} {line : Nat}
    (d : BurstDesc) (burst : WireBurst) (hp : placeLine s line = some pl)
    (hbody : pl.isTrailer = false) (hc : findContext s.contexts pl.window pl.slot = some c) :
    Rewrites s fun x =>
      if x.window = pl.window ∧ x.slot = pl.slot then
        c.afterBurst pl.record.inspection s.time.ticks (bodyBlocks d burst pl.pos)
      else x := by
  obtain ⟨hmem, hw, hslot⟩ := findContext_some hc
  intro x hx
  dsimp only
  split
  · next h =>
    refine ⟨hw.trans h.1.symm, hslot.trans h.2.symm, c, hmem, hw.trans h.1.symm,
      hslot.trans h.2.symm, rfl, fun hrecords hfits => ?_⟩
    refine contextFits_afterBurst _ _ ((record_congr s hw).trans (placeLine_some hp).1) hfits fun b hb => ?_
    have := bodyBlocks_below hb
    have := (placed_body hp hbody hrecords).2
    omega
  · exact ⟨rfl, rfl, x, hx, rfl, rfl, rfl, fun _ h => h⟩

theorem opens_of_openingTests {s : State} {pl : Placement} {p : Fin 16} {e : PoolEntry}
    (ho : openingTests s pl.window = .ok (p, e)) :
    s.part.state = .active ∧ s.windows[pl.window].freeze.frozen = false ∧
      s.contexts.length < 32 ∧ ownerWindow p = pl.window ∧ s.store.positions[p].state = .active ∧
        ∃ tail, s.pools[p] = e :: tail := by
  unfold openingTests at ho
  split at ho
  · exact nomatch ho
  next hs =>
  split at ho
  · exact nomatch ho
  next hf =>
  split at ho
  · exact nomatch ho
  next q hq =>
  split at ho
  · exact nomatch ho
  next e' tail hpool =>
  split at ho
  · exact nomatch ho
  next hroom =>
  cases ho
  obtain ⟨q, hq', hown, hactive⟩ | ⟨hnone, -⟩ := activePosition_cases s pl.window
  · obtain rfl : p = q := Option.some.inj (hq.symm.trans hq')
    exact ⟨not_not.1 hs, Bool.eq_false_iff.2 hf, Nat.lt_of_not_le hroom, hown, hactive, tail, hpool⟩
  · exact nomatch hq.symm.trans hnone

/-- What a body burst takes into a new context fits: no block of it is at or above the capacity. -/
theorem contextFits_opened {s : State} {pl : Placement} {line : Nat} (d : BurstDesc)
    (burst : WireBurst) (p : Fin 16) (e : PoolEntry) (low : Bool)
    (hp : placeLine s line = some pl) (hbody : pl.isTrailer = false) (hrecords : RecordsHold s) :
    let opened := newContext s pl.window pl.slot p e low
    let blocks := bodyBlocks d burst pl.pos
    ContextFits s
      { opened with
        coverage := coverWith 0#32 blocks
        tagSum := sumWith opened 0#128 blocks
        zeroFilled := blocks.any (·.zeroFilled)
        inspection := inspectionAfter pl.record.inspection none blocks } := by
  intro opened blocks
  obtain ⟨hrec, he, -⟩ := placeLine_some hp
  obtain ⟨hlt, hcap⟩ := placed_body hp hbody hrecords
  have hfits : ContextFits s opened :=
    ⟨pl.record, hrec, he, hlt, fun _ _ => BitVec.getLsbD_zero, BitVec.getLsbD_zero.symm⟩
  have hafter := contextFits_afterBurst pl.record.inspection s.time.ticks hrec hfits
    (blocks := blocks) fun b hb => by
      have := bodyBlocks_below hb
      omega
  rw [Context.afterBurst_of_opened (now := s.time.ticks) (c := opened) _ rfl rfl rfl rfl rfl] at hafter
  exact hafter

theorem change_bodyBurst {s : State} {d : BurstDesc} {burst : WireBurst} {line : Nat}
    {pl : Placement} (hp : placeLine s line = some pl) (hbody : pl.isTrailer = false) :
    ∃ v, Change (.writeDataBurst burst) s v ∧ Alike v (bodyBurst d burst pl s) := by
  have hrefused : ∀ cause, ∃ v, Change (.writeDataBurst burst) s v ∧
      Alike v (refuseBurst d pl.window cause s) :=
    fun cause => ⟨s, .nothing, alike_refuseBurst d pl.window cause s⟩
  by_cases hs : s.part.state = .active
  · cases hc : findContext s.contexts pl.window pl.slot with
    | some c =>
      obtain ⟨-, hw, hslot⟩ := findContext_some hc
      rw [bodyBurst_of_context d burst hs hc,
        bodyIntoContext_eq d burst (placeLine_some hp).1 hw hslot]
      exact ⟨_, .rewritten _ (rewrites_afterBurst d burst hp hbody hc),
        alike_mk _ rfl rfl fun _ h => h⟩
    | none =>
      have hnone : NoContext s pl := (findContext_none s.contexts pl.window pl.slot).1 hc
      cases ho : openingTests s pl.window with
      | error cause =>
        rw [bodyBurst_refused d burst hs hnone ho]
        exact hrefused cause
      | ok head =>
        obtain ⟨p, e⟩ := head
        obtain ⟨-, hf, hroom, hown, hactive, tail, hpool⟩ := opens_of_openingTests ho
        rw [bodyBurst_opening d burst hs hnone ho,
          bodyOpensContext_eq d burst (placeLine_some hp).1 hown hpool, ← forward_takeUpNext]
        refine ⟨_, .opened _ ⟨hs, hf, hnone, hroom, hown, hactive, hpool, rfl, rfl, fun hr => ?_⟩,
          alike_forward _ _⟩
        exact contextFits_opened d burst p e _ hp hbody hr
  · rw [show bodyBurst d burst pl s = refuseBurst d pl.window .fault s from if_pos hs]
    exact hrefused .fault

theorem change_trailerBurst (d : BurstDesc) (burst : WireBurst) (pl : Placement) (s : State) :
    ∃ v, Change (.writeDataBurst burst) s v ∧ Alike v (trailerBurst d burst pl s) := by
  by_cases hs : s.part.state = .active
  · cases hc : findContext s.contexts pl.window pl.slot with
    | some c =>
      rw [trailerBurst_of_context d burst hs hc]
      refine ⟨_, .closed pl.window pl.slot _ ?_, alike_sendTrailer _ _ _⟩
      rw [wrapSeqAfter]
      split
      · exact .inr rfl
      · exact .inl rfl
    | none =>
      rw [trailerBurst_of_noContext d burst hs
        ((findContext_none s.contexts pl.window pl.slot).1 hc), closeWithoutContext]
      split
      · exact ⟨_, .reported pl.window pl.slot, alike_sendTrailer _ _ _⟩
      · exact ⟨_, .nothing, alike_sendTrailer _ _ _⟩
  · rw [show trailerBurst d burst pl s = refuseBurst d pl.window .fault s from if_pos hs]
    exact ⟨s, .nothing, alike_refuseBurst d pl.window .fault s⟩

theorem change_checkFailure (d : BurstDesc) (burst : WireBurst) (pl : Placement) (s : State) :
    ∃ v, Change (.writeDataBurst burst) s v ∧ Alike v (checkFailure d pl s) :=
  ⟨_, .rewritten _ (rewrites_countReject s pl.window pl.slot), alike_mk _ rfl rfl fun _ h => h⟩

theorem change_handleWriteBurst (d : BurstDesc) (burst : WireBurst) (s : State) :
    ∃ v, Change (.writeDataBurst burst) s v ∧ Alike v (handleWriteBurst d burst s) := by
  unfold handleWriteBurst
  split
  · exact ⟨s, .nothing, alike_forward _ s⟩
  · exact ⟨s, .nothing, alike_forward _ s⟩
  · next pl hbody =>
    obtain ⟨line, hp, ht⟩ := classify_eq_body hbody
    split
    · exact change_bodyBurst hp ht
    · exact change_checkFailure d burst pl s
  · next pl _ =>
    split
    · exact change_trailerBurst d burst pl s
    · exact change_checkFailure d burst pl s

theorem effect_writeDataBurst (burst : WireBurst) (s : State) :
    ∃ t, exec (.writeDataBurst burst) s = .next t ∧ Effect (.writeDataBurst burst) s t := by
  cases ha : s.writePath.awaiting with
  | nil =>
    refine ⟨forward burst s, ?_, effect_of_alike (alike_forward burst s)⟩
    show execWriteDataBurst burst s = _
    rw [execWriteDataBurst, ha]
  | cons d rest =>
    obtain ⟨v, hchange, halike⟩ := change_handleWriteBurst d burst
      { s with writePath.awaiting := rest }
    exact ⟨_, exec_writeDataBurst_described ha, { s with writePath.awaiting := rest }, v,
      ⟨alike_mk s rfl rfl fun _ h => h, rfl⟩, hchange, halike⟩

end Sys2Proof.Machine
end

section
/-! SUPPORT. What a command can do: time and contexts, start-up, the derivation unit, tamper and the key
commands; and every command's effect. -/

namespace Sys2Proof.Machine

/-! ### The end of contexts (R78, R79) -/

theorem effect_channelReset (s : State) :
    ∃ t, exec .channelReset s = .next t ∧ Effect .channelReset s t := by
  by_cases hpast : PastLoading s
  · cases hr : s.inputs.controllerReset with
    | false =>
      refine ⟨_, exec_channelReset_pastLoading hpast hr, s, _, ⟨Alike.refl s, rfl⟩,
        .ended (fun _ => true) .channelReset s.time hpast rfl (Nat.le_refl _), ?_⟩
      exact alike_mk _ rfl rfl fun h => absurd hpast h
    | true =>
      refine ⟨s, ?_, effect_of_alike (Alike.refl s)⟩
      show execChannelReset s = _
      rw [execChannelReset, if_pos hr]
  · exact ⟨_, exec_channelReset_startUp hpast, effect_of_alike (alike_mk s rfl rfl fun _ h => h)⟩

theorem effect_tick (s : State) : ∃ t, exec .tick s = .next t ∧ Effect .tick s t := by
  cases hr : timeRuns s with
  | false => exact ⟨s, exec_tick_stopped hr, effect_of_alike (Alike.refl s)⟩
  | true =>
    exact ⟨_, exec_tick_runs hr, effect_of_change
      (.ended _ .timeout { s.time with count := 0, ticks := s.time.ticks + 1 }
        ((timeRuns_iff s).1 hr).1 rfl (Nat.zero_le _))⟩

theorem effect_contextExpiry (w : Fin 8) (slot : Nat) (s : State) :
    ∃ t, exec (.contextExpiry w slot) s = .next t ∧ Effect (.contextExpiry w slot) s t := by
  cases hr : timeRuns s with
  | false => exact ⟨s, exec_contextExpiry_stopped hr w slot, effect_of_alike (Alike.refl s)⟩
  | true =>
    exact ⟨_, exec_contextExpiry_runs hr w slot, effect_of_change
      (.ended _ .timeout s.time ((timeRuns_iff s).1 hr).1 rfl (Nat.le_refl _))⟩

/-! ### Start-up (R157, R167, R171, R172) -/

theorem effect_partResetRelease (s : State) :
    ∃ t, exec .partResetRelease s = .next t ∧ Effect .partResetRelease s t := by
  by_cases hs : s.part.state = .reset
  · refine ⟨_, exec_partResetRelease hs, effect_of_change ?_⟩
    split
    · exact .releasedInTamper hs
    · exact .released hs
  · refine ⟨s, ?_, effect_of_alike (Alike.refl s)⟩
    show execPartResetRelease s = _
    rw [execPartResetRelease, if_neg hs]

theorem effect_imageTransferComplete (image : Option (List Byte)) (s : State) :
    ∃ t, exec (.imageTransferComplete image) s = .next t ∧
      Effect (.imageTransferComplete image) s t := by
  by_cases hs : s.part.state = .loading ∧ s.inputs.clockRunning = true
  · cases image with
    | none =>
      exact ⟨_, exec_imageTransferComplete_absent hs.1 hs.2,
        effect_of_change (.left .absent hs.1 nofun)⟩
    | some bytes =>
      exact ⟨_, exec_imageTransferComplete_read hs.1 hs.2 bytes,
        { s with loader.workingCopy := workingCopyOf bytes }, _,
        ⟨alike_mk s rfl rfl fun _ h => h, rfl⟩,
          .left _ hs.1 fun h => ⟨length_workingCopyOf bytes, h⟩, Alike.refl _⟩
  · refine ⟨s, ?_, effect_of_alike (Alike.refl s)⟩
    exact congrArg Host.Outcome.next (if_neg hs)

/-! ### SELF-TEST (R147, R159) -/

theorem effect_knownAnswerTestComplete (passed : Bool) (s : State) :
    ∃ t, exec (.knownAnswerTestComplete passed) s = .next t ∧
      Effect (.knownAnswerTestComplete passed) s t := by
  by_cases h : s.part.state = .selfTest ∧ s.derivation.inFlight = some .knownAnswer
  · refine ⟨_, exec_knownAnswerTestComplete h.1 h.2 passed, effect_of_change ?_⟩
    cases passed with
    | false => exact .failedTest h.1
    | true =>
      rw [if_neg (by decide)]
      split
      · exact .searched 0 h.1 (.inl rfl)
      · next hm => exact .storeLost h.1 (Bool.eq_false_iff.2 hm)
  · refine ⟨s, ?_, effect_of_alike (Alike.refl s)⟩
    show execKnownAnswerTestComplete passed s = _
    rw [execKnownAnswerTestComplete, if_neg h]

theorem effect_checkValueRecomputationComplete (s : State) :
    ∃ t, exec .checkValueRecomputationComplete s = .next t ∧
      Effect .checkValueRecomputationComplete s t := by
  by_cases h : s.part.state = .selfTest ∧ ∃ p key, s.derivation.inFlight = some (.recompute p key)
  · obtain ⟨hs, p, key, hf⟩ := h
    refine ⟨_, exec_checkValueRecomputationComplete hs hf, effect_of_change ?_⟩
    cases key with
    | none => exact .searched (p.val + 1) hs (.inr rfl)
    | some k =>
      rw [judgeRecomputation]
      split
      · exact .searched (p.val + 1) hs (.inr rfl)
      · exact .searchedPast p hs
  · refine ⟨s, ?_, effect_of_alike (Alike.refl s)⟩
    show execCheckValueRecomputationComplete s = _
    rw [execCheckValueRecomputationComplete]
    split
    · next p key hs hf => exact absurd ⟨hs, p, key, hf⟩ h
    · rfl

/-! ### The derivation unit (R136, R143) -/

theorem effect_refillCompletion (s : State) :
    ∃ t, exec .refillCompletion s = .next t ∧ Effect .refillCompletion s t := by
  by_cases h : ∃ p n g key, s.derivation.inFlight = some (.refill p n g key)
  · obtain ⟨p, n, g, key, hf⟩ := h
    exact ⟨_, exec_refillCompletion hf, effect_of_change (.refilled hf)⟩
  · refine ⟨s, ?_, effect_of_alike (Alike.refl s)⟩
    show execRefillCompletion s = _
    rw [execRefillCompletion]
    split
    · next p n g key hf => exact absurd ⟨p, n, g, key, hf⟩ h
    · rfl

theorem effect_keyLoadUnwrapCompletion (s : State) :
    ∃ t, exec .keyLoadUnwrapCompletion s = .next t ∧ Effect .keyLoadUnwrapCompletion s t := by
  by_cases h : ∃ p block, s.derivation.inFlight = some (.unwrap p block)
  · obtain ⟨p, block, hf⟩ := h
    exact ⟨_, exec_keyLoadUnwrapCompletion hf, effect_of_change (.unwrapped hf)⟩
  · refine ⟨s, ?_, effect_of_alike (Alike.refl s)⟩
    show execKeyLoadUnwrapCompletion s = _
    rw [execKeyLoadUnwrapCompletion]
    split
    · next p block hf => exact absurd ⟨p, block, hf⟩ h
    · rfl

theorem effect_tamper (s : State) : ∃ t, exec .tamper s = .next t ∧ Effect .tamper s t := by
  have hline : Alike s { s with inputs.tamperLine := true } := alike_mk s rfl rfl fun _ h => h
  cases hl : s.inputs.tamperLine with
  | true =>
    refine ⟨s, ?_, effect_of_alike (Alike.refl s)⟩
    show execTamper s = _
    rw [execTamper, if_pos hl]
  | false =>
    by_cases hs : s.part.state = .reset
    · exact ⟨_, exec_tamper_reset hl hs, effect_of_alike hline⟩
    · exact ⟨_, exec_tamper_taken hl hs, _, _, ⟨hline, rfl⟩, .tampered hs, Alike.refl _⟩

/-! ### The commands on keys (R136 to R138, R163) -/

/-- A frame's effect is that of what it carries out, once the frame has been received. -/
theorem effect_frameEnds {c : Instr} {code : Byte} {carry : State → State} {s : State}
    (hexec : exec c s = .next (frameEnds code carry s))
    (h : LinkFree s → ∀ u : State, u = { s with link.frame := [] } →
      ∃ v, Change c u v ∧ Alike v (carry u)) :
    ∃ t, exec c s = .next t ∧ Effect c s t := by
  refine ⟨_, hexec, ?_⟩
  by_cases hl : LinkFree s
  · obtain ⟨v, hchange, halike⟩ := h hl _ rfl
    rw [frameEnds_free code carry s hl]
    exact ⟨_, v, ⟨alike_frameReceived s, rfl⟩, hchange, halike⟩
  · exact effect_of_alike (alike_frameEnds_not_free hl)

theorem change_of_alike {c : Instr} {u t : State} (h : Alike u t) :
    ∃ v, Change c u v ∧ Alike v t := ⟨u, .nothing, h⟩

theorem change_checkLoad (position : Byte) (p : Fin 16) (b : KeyBlock) {s : State}
    (hs : s.part.state = .active) (hmark : s.link.loadInProgress = false) :
    ∃ v, Change (.keyLoad position b) s v ∧ Alike v (checkLoad p b s) := by
  rw [checkLoad_eq]
  split
  · exact change_of_alike (alike_answer _ _ s)
  next hlatch =>
  split
  · exact change_of_alike (alike_answer _ _ s)
  split
  · exact change_of_alike (alike_answer _ _ s)
  next hid =>
  split
  · exact change_of_alike (alike_answer _ _ s)
  next hfree =>
  split
  · exact change_of_alike (alike_answer _ _ s)
  next hrange =>
  obtain ⟨hle, hmax⟩ := not_not.1 hrange
  exact ⟨_, .accepted hs hmark (Bool.eq_false_iff.2 hlatch)
    ⟨hid, hle, hmax, fun q hq hne heq => hfree ⟨q, hq, hne, heq⟩⟩, Alike.refl _⟩

theorem effect_keyLoad (position : Byte) (b : KeyBlock) (s : State) :
    ∃ t, exec (.keyLoad position b) s = .next t ∧ Effect (.keyLoad position b) s t := by
  refine effect_frameEnds (c := .keyLoad position b) rfl fun hl u hu => ?_
  unfold onPosition
  split
  · dsimp only
    rw [unlessDisabled_eq]
    split
    · exact change_of_alike (alike_answer _ _ u)
    · rw [whenPermitted]
      split
      · next hs =>
        exact change_checkLoad position _ b ((inActive_iff _).1 hs) (by rw [hu]; exact hl.2.2)
      · exact change_of_alike (alike_answer _ _ u)
  · exact change_of_alike (alike_answer _ _ u)

theorem effect_keyErase (position : Byte) (s : State) :
    ∃ t, exec (.keyErase position) s = .next t ∧ Effect (.keyErase position) s t := by
  refine effect_frameEnds (c := .keyErase position) rfl fun _ u _ => ?_
  unfold onPosition
  split
  · dsimp only
    rw [whenPermitted]
    split
    · next hs => exact ⟨_, .erased _ ((inActiveOrFault_iff _).1 hs), alike_answer _ _ _⟩
    · exact change_of_alike (alike_answer _ _ u)
  · exact change_of_alike (alike_answer _ _ u)

theorem change_trySwitch (window : Byte) (w : Fin 8) {s : State} (hs : s.part.state = .active) :
    ∃ v, Change (.keySwitch window) s v ∧ Alike v (trySwitch w s) := by
  rw [trySwitch]
  obtain ⟨p, hp, -, hactive⟩ | ⟨hnone, -⟩ := activePosition_cases s w
  · simp only [hp]
    split
    · next hready => exact ⟨_, .switched hs hactive hready, alike_answer _ _ _⟩
    · exact change_of_alike (alike_answer _ _ s)
  · simp only [hnone]
    exact change_of_alike (alike_answer _ _ s)

theorem effect_keySwitch (window : Byte) (s : State) :
    ∃ t, exec (.keySwitch window) s = .next t ∧ Effect (.keySwitch window) s t := by
  refine effect_frameEnds (c := .keySwitch window) rfl fun _ u _ => ?_
  unfold onWindow
  split
  · dsimp only
    rw [unlessDisabled_eq]
    split
    · exact change_of_alike (alike_answer _ _ u)
    · rw [whenPermitted]
      split
      · next hs => exact change_trySwitch window _ ((inActive_iff _).1 hs)
      · exact change_of_alike (alike_answer _ _ u)
  · exact change_of_alike (alike_answer _ _ u)

theorem effect_tamperClear (s : State) :
    ∃ t, exec .tamperClear s = .next t ∧ Effect .tamperClear s t := by
  refine effect_frameEnds (c := .tamperClear) rfl fun _ u _ => ?_
  rw [whenPermitted]
  split
  · split
    · exact change_of_alike (alike_answer _ _ u)
    · exact ⟨_, .cleared, alike_answer _ _ _⟩
  · exact change_of_alike (alike_answer _ _ u)

/-! ### Every command -/

theorem effect_of_quiet {c : Instr} (h : Quiet c) (s : State) :
    ∃ t, exec c s = .next t ∧ Effect c s t := by
  obtain ⟨t, hexec, halike⟩ := exec_quiet h s
  exact ⟨t, hexec, effect_of_alike halike⟩

theorem exec_effect (c : Instr) (s : State) : ∃ t, exec c s = .next t ∧ Effect c s t := by
  cases c with
  | writeDataBurst burst => exact effect_writeDataBurst burst s
  | channelReset => exact effect_channelReset s
  | tick => exact effect_tick s
  | contextExpiry w slot => exact effect_contextExpiry w slot s
  | partReset fate => exact ⟨_, rfl, effect_of_change (.reset fate)⟩
  | partResetRelease => exact effect_partResetRelease s
  | imageTransferComplete image => exact effect_imageTransferComplete image s
  | knownAnswerTestComplete passed => exact effect_knownAnswerTestComplete passed s
  | checkValueRecomputationComplete => exact effect_checkValueRecomputationComplete s
  | refillCompletion => exact effect_refillCompletion s
  | keyLoadUnwrapCompletion => exact effect_keyLoadUnwrapCompletion s
  | tamper => exact effect_tamper s
  | keyLoad position b => exact effect_keyLoad position b s
  | keyErase position => exact effect_keyErase position s
  | keySwitch window => exact effect_keySwitch window s
  | tamperClear => exact effect_tamperClear s
  | readDataBurst beats => exact effect_of_quiet (.readDataBurst beats) s
  | dramAlertAssertion => exact effect_of_quiet .dramAlertAssertion s
  | dramAlertDeassertion => exact effect_of_quiet .dramAlertDeassertion s
  | checkFailurePulseEnd => exact effect_of_quiet .checkFailurePulseEnd s
  | channelResetRelease => exact effect_of_quiet .channelResetRelease s
  | tamperLineInactive => exact effect_of_quiet .tamperLineInactive s
  | status => exact effect_of_quiet .status s
  | windowStatus w => exact effect_of_quiet (.windowStatus w) s
  | keyStatus p => exact effect_of_quiet (.keyStatus p) s
  | freeze w => exact effect_of_quiet (.freeze w) s
  | thaw w => exact effect_of_quiet (.thaw w) s
  | noticeAck causes => exact effect_of_quiet (.noticeAck causes) s
  | alertClear => exact effect_of_quiet .alertClear s
  | badFrame bytes => exact effect_of_quiet (.badFrame bytes) s
  | referenceClockStop => exact effect_of_quiet .referenceClockStop s
  | referenceClockResume => exact effect_of_quiet .referenceClockResume s
  | _ => exact effect_of_quiet (.channel rfl) s

theorem effect_of_exec {c : Instr} {s t : State} (h : exec c s = .next t) : Effect c s t := by
  obtain ⟨t', hexec, heffect⟩ := exec_effect c s
  cases hexec.symm.trans h
  exact heffect

end Sys2Proof.Machine
end

section
/-! SUPPORT. What the operations on keys leave beside the key table, and the rules of the whole part
(sections 8 and 10). -/

namespace Sys2Proof.Machine

/-! ### Operations on keys leave the other blocks as they are -/

section
variable {s : State}

theorem beside_keys (s : State) {xs : Vector KeyPosition 16} {pools : Vector (List PoolEntry) 16}
    {d : Derivation} {pt : PartController} {lk : Link} (hstate : pt.state = s.part.state) :
    Beside s
      { s with
        store := { s.store with positions := xs }, pools := pools, derivation := d, part := pt
        link := lk } :=
  ⟨hstate, fun _ => rfl, fun _ => rfl, rfl, rfl, rfl, rfl, rfl, fun _ h => h, rfl⟩

theorem beside_setPosition (p : Fin 16) (x : KeyPosition) (s : State) :
    Beside s (setPosition p x s) := beside_keys s rfl

theorem beside_setPool (p : Fin 16) (l : List PoolEntry) (s : State) : Beside s (setPool p l s) :=
  beside_keys s rfl

theorem beside_unitFreed (s : State) : Beside s (unitFreed s) := beside_keys s rfl

theorem beside_takeUpNext (s : State) : Beside s (takeUpNext s) := by
  obtain h | ⟨p, b, -, -, -, h⟩ | ⟨p, -, -, -, -, h⟩ := takeUpNext_cases s
  · rw [h]
    exact Beside.refl s
  · rw [h]
    exact beside_keys s rfl
  · rw [h, takeUpRefill_eq]
    exact beside_keys s rfl

theorem beside_rollover (p : Fin 16) (s : State) : Beside s (rollover p s) := by
  rw [rollover_eq]
  exact beside_keys s rfl

theorem beside_spentTest (p : Fin 16) (s : State) : Beside s (spentTest p s) := by
  rw [spentTest_eq]
  split
  · exact beside_keys s rfl
  · exact Beside.refl s

theorem beside_applyRefill (p : Fin 16) (n : Nat) (g : BitVec 32) (key : Option (Block × KeyId))
    (s : State) : Beside s (applyRefill p n g key s) := by
  unfold applyRefill
  split
  · exact Beside.refl s
  · split
    · exact beside_setPool _ _ s
    · exact Beside.refl s

theorem beside_answerLoad (code : AnswerCode) (s : State) : Beside s (answerLoad code s) :=
  beside_keys s rfl

theorem beside_loadPosition (p : Fin 16) (b : KeyBlock) (key : Block) (s : State) :
    Beside s (loadPosition p b key s) :=
  (beside_setPosition _ _ s).trans (beside_setPool _ _ _)

theorem beside_judgeLoad (p : Fin 16) (block : Option KeyBlock) (s : State) :
    Beside s (judgeLoad p block s) := by
  cases block with
  | none => exact beside_answerLoad _ s
  | some b =>
    rw [judgeLoad_eq]
    split
    · exact beside_answerLoad _ s
    · split
      · exact beside_answerLoad _ s
      · exact (beside_loadPosition p b _ s).trans (beside_answerLoad _ _)

theorem beside_acceptLoad (p : Fin 16) (b : KeyBlock) (s : State) : Beside s (acceptLoad p b s) :=
  (beside_keys s rfl).trans (beside_takeUpNext _)

theorem beside_eraseKey (p : Fin 16) (s : State) : Beside s (eraseKey p s) := by
  rw [eraseKey_eq]
  refine Beside.trans ?_ (beside_takeUpNext _)
  exact beside_keys s rfl

theorem beside_switchKey (p : Fin 16) (s : State) : Beside s (switchKey p s) :=
  ((((beside_setPosition _ _ s).trans (beside_setPool p [] _)).trans (beside_rollover p _)).trans
    (beside_takeUpNext _))

theorem beside_erasePosition (p : Fin 16) (s : State) : Beside s (erasePosition p s) :=
  beside_keys s rfl

theorem beside_settleWindow (s : State) (w : Fin 8) : Beside s (settleWindow s w) := by
  unfold settleWindow
  split
  · exact Beside.refl s
  · split
    · exact beside_setPosition _ _ s
    · exact (alike_raiseNoticeWhen _ _ s).toBeside

theorem beside_foldl {α : Type} {f : State → α → State} (h : ∀ s x, Beside s (f s x)) (l : List α)
    (s : State) : Beside s (l.foldl f s) := by
  induction l generalizing s with
  | nil => exact Beside.refl s
  | cons x l ih => exact (h s x).trans (ih _)

/-- The positions settled at the end of SELF-TEST (R147 steps 3 and 4). -/
def settledAll (s : State) : State := (List.finRange 8).foldl settleWindow (spentTestAll s)

theorem beside_settledAll (s : State) : Beside s (settledAll s) :=
  (beside_foldl (fun s p => beside_spentTest p s) _ s).trans (beside_foldl beside_settleWindow _ _)

/-- ACTIVE begins with the positions settled (R159). -/
def activeBegun (outcome : StoreOutcome) (s : State) : State :=
  { s with part := { s.part with storeOutcome := outcome, state := .active } }

theorem enterActive_eq_takeUpNext (outcome : StoreOutcome) (s : State) :
    enterActive outcome s = takeUpNext (activeBegun outcome (settledAll s)) := by
  rw [enterActive, settledAll, activeBegun]

/-- The search for the next position to check finds one or ends SELF-TEST (R159). -/
theorem checkFrom_cases (start : Nat) (s : State) :
    (∃ p key, checkFrom start s = { s with derivation.inFlight := some (.recompute p key) }) ∨
      ∃ outcome, checkFrom start s = enterActive outcome s := by
  unfold checkFrom
  split
  · exact .inl ⟨_, _, rfl⟩
  · exact .inr ⟨_, rfl⟩

end

/-! ### The part state (R157) -/

theorem enterActive_state (outcome : StoreOutcome) (s : State) :
    (enterActive outcome s).part.state = .active := by
  rw [enterActive_eq_takeUpNext]
  exact (beside_takeUpNext _).state

theorem checkFrom_state (start : Nat) (s : State) :
    (checkFrom start s).part.state = s.part.state ∨ (checkFrom start s).part.state = .active := by
  obtain ⟨p, key, h⟩ | ⟨outcome, h⟩ := checkFrom_cases start s
  · exact .inl (by rw [h])
  · exact .inr (by rw [h, enterActive_state])

/-- Tamper taken with the latch clear, whatever the expired list holds. -/
theorem takeTamper_clear {s : State} (h : s.store.latch = false) :
    takeTamper s =
      { tampered s with expired := (endContexts (fun _ => true) .tamper s).expired } := by
  have hcontexts : s.contexts.filter (fun _ => !true) = [] := List.filter_eq_nil_iff.2 (by simp)
  simp only [takeTamper, raiseNotice_store, h, Bool.false_eq_true, if_false, answerDroppedLoad_eq]
  calc
    _ = { tampered s with
          contexts := s.contexts.filter (fun _ => !true)
          derivation := (tamperDerivation s).derivation
          expired := (endContexts (fun _ => true) .tamper s).expired } := rfl
    _ = { tampered s with expired := (endContexts (fun _ => true) .tamper s).expired } := by
      rw [tamperDerivation_derivation, ← tampered_derivation, hcontexts]
      rfl

/-- Tamper with the latch set raises TAMPER alone, which no invariant reads. -/
theorem alike_takeTamper_latched {s : State} (h : s.store.latch = true) :
    Alike s (takeTamper s) := by
  rw [takeTamper_latched s h]
  exact alike_mk s rfl rfl fun _ h => h

theorem takeTamper_state (s : State) : (takeTamper s).part.state = s.part.state := by
  cases h : s.store.latch with
  | true => exact (alike_takeTamper_latched h).state
  | false => rw [takeTamper_clear h]; rfl

/-- Table 10-1, but for the two ways out of LOADING. -/
theorem change_state {c : Instr} {s t : State} (h : Change c s t) :
    t.part.state = s.part.state ∨
      (∃ store, c = .partReset store ∧ t.part.state = .reset) ∨
      (c = .partResetRelease ∧ s.part.state = .reset ∧ t.part.state = .loading) ∨
      (∃ image, c = .imageTransferComplete image) ∨
      (s.part.state = .selfTest ∧ c = .knownAnswerTestComplete false ∧ t.part.state = .fault) ∨
      (s.part.state = .selfTest ∧ t.part.state = .active ∧
        (c = .knownAnswerTestComplete true ∨ c = .checkValueRecomputationComplete)) := by
  have hsearch : ∀ (start : Nat) (u : State), u.part.state = s.part.state →
      (checkFrom start u).part.state = s.part.state ∨ (checkFrom start u).part.state = .active :=
    fun start u hu => (checkFrom_state start u).imp_left (·.trans hu)
  cases h with
  | nothing | rewritten | closed | reported | ended | cleared => exact .inl rfl
  | opened low h =>
    exact .inl ((beside_spentTest _ _).trans (beside_takeUpNext _)).state
  | reset fate => exact .inr (.inl ⟨fate, rfl, rfl⟩)
  | released h => exact .inr (.inr (.inl ⟨rfl, h, rfl⟩))
  | releasedInTamper h => exact .inr (.inr (.inl ⟨rfl, h, rfl⟩))
  | left => exact .inr (.inr (.inr (.inl ⟨_, rfl⟩)))
  | failedTest h => exact .inr (.inr (.inr (.inr (.inl ⟨h, rfl, rfl⟩))))
  | storeLost h =>
    exact .inr (.inr (.inr (.inr (.inr ⟨h, enterActive_state _ _, .inl rfl⟩))))
  | searched start h hc =>
    obtain hsame | hactive := hsearch start (unitFreed s) rfl
    · exact .inl hsame
    · exact .inr (.inr (.inr (.inr (.inr ⟨h, hactive, hc⟩))))
  | searchedPast p h =>
    obtain hsame | hactive := hsearch (p.val + 1) (erasePosition p (unitFreed s)) rfl
    · exact .inl hsame
    · exact .inr (.inr (.inr (.inr (.inr ⟨h, hactive, .inr rfl⟩))))
  | refilled h =>
    exact .inl (((beside_unitFreed s).trans (beside_applyRefill _ _ _ _ _)).trans
      ((beside_spentTest _ _).trans (beside_takeUpNext _))).state
  | unwrapped h =>
    exact .inl (((beside_unitFreed s).trans (beside_judgeLoad _ _ _)).trans
      (beside_takeUpNext _)).state
  | tampered h => exact .inl (takeTamper_state s)
  | accepted => exact .inl (beside_acceptLoad _ _ s).state
  | erased p => exact .inl (beside_eraseKey p s).state
  | switched => exact .inl (beside_switchKey _ s).state

theorem leaveLoading_state (outcome : ImageOutcome) (s : State) :
    (leaveLoading outcome s).part.state = .selfTest ∧
        (leaveLoading outcome s).loader.outcome = .valid ∨
      (leaveLoading outcome s).part.state = .passOnly ∧
        (leaveLoading outcome s).loader.outcome ≠ .valid := by
  rw [leaveLoading]
  split
  · exact .inl ⟨rfl, rfl⟩
  · next h => exact .inr ⟨rfl, h⟩

/-- The end of the transfer leads out of LOADING, and nowhere else (R171, R172). -/
theorem exec_imageTransferComplete_state (image : Option (List Byte)) (s : State) :
    ∃ t, exec (.imageTransferComplete image) s = .next t ∧
      (t = s ∨ s.part.state = .loading ∧
        (t.part.state = .selfTest ∧ t.loader.outcome = .valid ∨
          t.part.state = .passOnly ∧ t.loader.outcome ≠ .valid)) := by
  by_cases hs : s.part.state = .loading ∧ s.inputs.clockRunning = true
  · cases image with
    | none =>
      exact ⟨_, exec_imageTransferComplete_absent hs.1 hs.2, .inr ⟨hs.1, .inr ⟨rfl, nofun⟩⟩⟩
    | some bytes =>
      exact ⟨_, exec_imageTransferComplete_read hs.1 hs.2 bytes,
        .inr ⟨hs.1, leaveLoading_state _ _⟩⟩
  · exact ⟨s, congrArg Host.Outcome.next (if_neg hs), .inl rfl⟩

/-- Settles O59. -/
theorem partStateTransitions : Obligations.PartStateTransitions := by
  intro c s
  by_cases himage : ∃ image, c = .imageTransferComplete image
  · obtain ⟨image, rfl⟩ := himage
    obtain ⟨t, hexec, rfl | ⟨hs, ht⟩⟩ := exec_imageTransferComplete_state image s
    · exact ⟨t, hexec, .inl rfl⟩
    · exact ⟨t, hexec, .inr (.inr (.inr (.inl ⟨image, rfl, hs, ht⟩)))⟩
  · obtain ⟨t, hexec, u, v, ⟨hsu, -⟩, hchange, hvt⟩ := exec_effect c s
    refine ⟨t, hexec, ?_⟩
    rw [hvt.state, ← hsu.state]
    obtain h | h | h | h | h | h := change_state hchange
    · exact .inl h
    · exact .inr (.inl h)
    · exact .inr (.inr (.inl h))
    · exact absurd h himage
    · exact .inr (.inr (.inr (.inr (.inl h))))
    · exact .inr (.inr (.inr (.inr (.inr h))))

/-! ### The rules of the whole part (R44, R48, R55, R56, R117) -/

/-- What every command keeps to: the transport key, the window records, the wrap sequences, and no opening
in a frozen window. -/
structure KeepsRules (c : Instr) (s t : State) : Prop where
  transportKey : t.transportKey = s.transportKey
  records : (∀ image, c ≠ .imageTransferComplete image) → (∀ store, c ≠ .partReset store) →
    ∀ w : Fin 8, t.windows[w].record = s.windows[w].record
  wrapSeq : (∀ store, c ≠ .partReset store) → (∀ passed, c ≠ .knownAnswerTestComplete passed) →
    ∀ w : Fin 8, t.store.wrapSeq[w] = s.store.wrapSeq[w] ∨
      (t.store.wrapSeq[w] = s.store.wrapSeq[w] + 1 ∧ ∃ burst, c = .writeDataBurst burst)
  contexts : ∀ w : Fin 8, s.windows[w].freeze.frozen = true → ∀ x ∈ t.contexts, x.window = w →
    ∃ y ∈ s.contexts, y.window = w ∧ y.slot = x.slot ∧ y.counter = x.counter

theorem exists_same_context {s : State} {w : Fin 8} {x : Context} (hx : x ∈ s.contexts)
    (hw : x.window = w) :
    ∃ y ∈ s.contexts, y.window = w ∧ y.slot = x.slot ∧ y.counter = x.counter :=
  ⟨x, hx, hw, rfl, rfl⟩

/-- The records and the store's wrap sequences stand, and no context is new. -/
theorem keepsRules_of_same {c : Instr} {s t : State} (hkey : t.transportKey = s.transportKey)
    (hrecords : ∀ w : Fin 8, t.windows[w].record = s.windows[w].record)
    (hseq : t.store.wrapSeq = s.store.wrapSeq) (hcontexts : t.contexts ⊆ s.contexts) :
    KeepsRules c s t :=
  ⟨hkey, fun _ _ => hrecords, fun _ _ w => .inl (by rw [hseq]),
    fun _ _ _ hx hw => exists_same_context (hcontexts hx) hw⟩

theorem keepsRules_of_beside {c : Instr} {s t : State} (h : Beside s t) : KeepsRules c s t :=
  keepsRules_of_same h.transportKey h.records h.wrapSeq (by rw [h.contexts]; exact List.Subset.refl _)

theorem KeepsRules.trans_beside {c : Instr} {s t u : State} (h : KeepsRules c s t)
    (h' : Beside t u) : KeepsRules c s u where
  transportKey := h'.transportKey.trans h.transportKey
  records hi hp w := (h'.records w).trans (h.records hi hp w)
  wrapSeq hp hk w := by
    rw [h'.wrapSeq]
    exact h.wrapSeq hp hk w
  contexts w hf x hx := h.contexts w hf x (h'.contexts ▸ hx)

theorem KeepsRules.activeBegun {c : Instr} {s t : State} (outcome : StoreOutcome)
    (h : KeepsRules c s t) : KeepsRules c s (activeBegun outcome t) :=
  ⟨h.transportKey, h.records, h.wrapSeq, h.contexts⟩

theorem KeepsRules.enterActive {c : Instr} {s t : State} (outcome : StoreOutcome)
    (h : KeepsRules c s t) : KeepsRules c s (enterActive outcome t) := by
  rw [enterActive_eq_takeUpNext]
  exact ((h.trans_beside (beside_settledAll t)).activeBegun outcome).trans_beside
    (beside_takeUpNext _)

theorem KeepsRules.checkFrom {c : Instr} {s t : State} (start : Nat) (h : KeepsRules c s t) :
    KeepsRules c s (checkFrom start t) := by
  obtain ⟨p, key, heq⟩ | ⟨outcome, heq⟩ := checkFrom_cases start t
  · rw [heq]
    exact h.trans_beside (beside_keys t rfl)
  · rw [heq]
    exact h.enterActive outcome

theorem tampered_record (s : State) (w : Fin 8) :
    (tampered s).windows[w].record = s.windows[w].record := by
  rw [tampered, ofFn_getElem_fin]

theorem keepsRules_takeTamper {c : Instr} (s : State) : KeepsRules c s (takeTamper s) := by
  cases h : s.store.latch with
  | true => exact keepsRules_of_beside (alike_takeTamper_latched h).toBeside
  | false =>
    rw [takeTamper_clear h]
    exact keepsRules_of_same rfl (tampered_record s) rfl (List.nil_subset _)

theorem keepsRules_opened {c : Instr} {s : State} {pl : Placement} {p : Fin 16} {e : PoolEntry}
    {tail : List PoolEntry} {x : Context} (low : Bool) (h : Opens s pl p e tail x) :
    KeepsRules c s (headDrawn s pl p tail x low) := by
  refine ⟨rfl, fun _ _ _ => rfl, fun _ _ _ => .inl rfl, fun w hf y hy hw => ?_⟩
  obtain rfl | hy := List.mem_cons.1 ((insertContext_perm x s.contexts).mem_iff.1 hy)
  · rw [← hw, h.window, h.unfrozen] at hf
    exact absurd hf Bool.false_ne_true
  · exact exists_same_context hy hw

theorem leaveLoading_rest (outcome : ImageOutcome) (s : State) :
    (leaveLoading outcome s).transportKey = s.transportKey ∧
      (leaveLoading outcome s).store = s.store ∧
      (leaveLoading outcome s).contexts = s.contexts ∧
      (leaveLoading outcome s).expired = s.expired := by
  rw [leaveLoading]
  split <;> exact ⟨rfl, rfl, rfl, rfl⟩

theorem loseStore_record (s : State) (w : Fin 8) :
    (loseStore s).windows[w].record = s.windows[w].record := by
  rw [loseStore_eq]
  simp only [ofFn_getElem_fin]

theorem clearTamper_record (s : State) (w : Fin 8) :
    (clearTamper s).windows[w].record = s.windows[w].record := by
  rw [clearTamper, thawTamper]
  simp only [ofFn_getElem_fin]

theorem keepsRules_loseStore (s : State) :
    KeepsRules (.knownAnswerTestComplete true) s (loseStore s) := by
  refine ⟨by rw [loseStore_eq], fun _ _ => loseStore_record s, fun _ h => absurd rfl (h true),
    fun w _ x hx hw => exists_same_context ?_ hw⟩
  rw [loseStore_eq] at hx
  exact hx

theorem change_keepsRules {c : Instr} {s t : State} (h : Change c s t) : KeepsRules c s t := by
  cases h with
  | nothing => exact keepsRules_of_beside (Beside.refl s)
  | rewritten f h =>
    refine ⟨rfl, fun _ _ _ => rfl, fun _ _ _ => .inl rfl, fun w _ x hx hw => ?_⟩
    obtain ⟨y, hy, rfl⟩ := List.mem_map.1 hx
    obtain ⟨hfw, hfs, z, hz, hzw, hzs, hzc, -⟩ := h y hy
    exact ⟨z, hz, by rw [hzw, ← hfw, hw], by rw [hzs, hfs], hzc⟩
  | opened low h =>
    exact (keepsRules_opened low h).trans_beside
      ((beside_spentTest _ _).trans (beside_takeUpNext _))
  | closed w slot seq h =>
    refine ⟨rfl, fun _ _ _ => rfl, fun _ _ v => ?_, fun v _ x hx hw =>
      exists_same_context (List.mem_of_mem_filter hx) hw⟩
    rw [getElem_set_fin]
    split
    · next hv =>
      subst hv
      exact h.imp_right fun h => ⟨h, _, rfl⟩
    · exact .inl rfl
  | reported => exact keepsRules_of_same rfl (fun _ => rfl) rfl (List.Subset.refl _)
  | ended =>
    exact keepsRules_of_same rfl (fun _ => rfl) rfl fun _ hx => List.mem_of_mem_filter hx
  | reset fate =>
    exact ⟨rfl, fun _ h => absurd rfl (h fate), fun h => absurd rfl (h fate), fun _ _ _ hx =>
      absurd hx List.not_mem_nil⟩
  | released => exact keepsRules_of_same rfl (fun _ => rfl) rfl (List.Subset.refl _)
  | releasedInTamper =>
    obtain ⟨hkey, hrecords, hseq, hcontexts⟩ := keepsRules_takeTamper (c := .partResetRelease) s
    exact ⟨hkey, hrecords, hseq, hcontexts⟩
  | left outcome =>
    obtain ⟨hkey, hstore, hcontexts, -⟩ := leaveLoading_rest outcome s
    exact ⟨hkey, fun h => absurd rfl (h _), fun _ _ w => .inl (by rw [hstore]),
      fun w _ x hx hw => exists_same_context (hcontexts ▸ hx) hw⟩
  | failedTest => exact keepsRules_of_same rfl (fun _ => rfl) rfl (List.Subset.refl _)
  | storeLost =>
    obtain ⟨hkey, hrecords, hseq, hcontexts⟩ :=
      (keepsRules_loseStore (unitFreed s)).enterActive .lost
    exact ⟨hkey, hrecords, hseq, hcontexts⟩
  | searched start => exact (keepsRules_of_beside (beside_unitFreed s)).checkFrom start
  | searchedPast p =>
    exact (keepsRules_of_beside ((beside_unitFreed s).trans (beside_erasePosition p _))).checkFrom _
  | refilled =>
    exact keepsRules_of_beside (((beside_unitFreed s).trans (beside_applyRefill _ _ _ _ _)).trans
      ((beside_spentTest _ _).trans (beside_takeUpNext _)))
  | unwrapped =>
    exact keepsRules_of_beside (((beside_unitFreed s).trans (beside_judgeLoad _ _ _)).trans
      (beside_takeUpNext _))
  | tampered => exact keepsRules_takeTamper s
  | accepted => exact keepsRules_of_beside (beside_acceptLoad _ _ s)
  | erased p => exact keepsRules_of_beside (beside_eraseKey p s)
  | switched => exact keepsRules_of_beside (beside_switchKey _ s)
  | cleared =>
    exact keepsRules_of_same rfl (clearTamper_record s) rfl (List.Subset.refl _)

/-- Settles O60. -/
theorem wholePartRules : Obligations.WholePartRules := by
  intro c s t h
  obtain ⟨u, v, ⟨hsu, hwindows⟩, hchange, hvt⟩ := effect_of_exec h
  obtain ⟨hkey, hrecords, hseq, hcontexts⟩ := (change_keepsRules hchange).trans_beside hvt.toBeside
  refine ⟨hkey.trans hsu.transportKey, fun w => ⟨fun hi hp => ?_, fun hp hk => ?_, fun hf x hx hw => ?_⟩⟩
  · rw [hrecords hi hp w, hwindows]
  · rw [← hsu.wrapSeq]
    exact hseq hp hk w
  · rw [← hsu.contexts]
    rw [← hwindows] at hf
    exact hcontexts w ((frozen_iff _).2 hf) x hx hw

end Sys2Proof.Machine
end

section
/-! SUPPORT. The context table and the expired list through every step (section 4). -/

namespace Sys2Proof.Machine

/-! ### The invariant of the two tables (R62, R77) -/

/-- At most 32 contexts in order and at most 16 entries, none twice and none for a slot with a context. -/
structure TablesInOrder (cs : List Context) (es : List ExpiredEntry) : Prop where
  contexts_length : cs.length ≤ 32
  contexts_sorted : cs.Pairwise ContextBefore
  expired_length : es.length ≤ 16
  expired_distinct : es.Pairwise fun e f => e.window ≠ f.window ∨ e.slot ≠ f.slot
  expired_closed : ∀ e ∈ es, ∀ c ∈ cs, e.window ≠ c.window ∨ e.slot ≠ c.slot

theorem contextTableInv_iff (s : State) :
    ContextTableInv s ↔ TablesInOrder s.contexts s.expired :=
  ⟨fun ⟨h1, h2, h3, h4, h5⟩ => ⟨h1, h2, h3, h4, h5⟩, fun ⟨h1, h2, h3, h4, h5⟩ => ⟨h1, h2, h3, h4, h5⟩⟩

section
variable {cs cs' : List Context} {es es' : List ExpiredEntry}

/-- Contexts and entries may leave. -/
theorem TablesInOrder.sublist (h : TablesInOrder cs es) (hcs : cs'.Sublist cs)
    (hes : es'.Sublist es) : TablesInOrder cs' es' where
  contexts_length := hcs.length_le.trans h.contexts_length
  contexts_sorted := h.contexts_sorted.sublist hcs
  expired_length := hes.length_le.trans h.expired_length
  expired_distinct := h.expired_distinct.sublist hes
  expired_closed e he c hc := h.expired_closed e (hes.subset he) c (hcs.subset hc)

/-- Contexts may change in their places. -/
theorem TablesInOrder.map (h : TablesInOrder cs es) {f : Context → Context}
    (hf : ∀ x ∈ cs, (f x).window = x.window ∧ (f x).slot = x.slot) :
    TablesInOrder (cs.map f) es where
  contexts_length := by
    rw [List.length_map]
    exact h.contexts_length
  contexts_sorted := by
    refine List.pairwise_map.2 (h.contexts_sorted.imp_of_mem fun {x y} hx hy hxy => ?_)
    obtain ⟨hxw, hxs⟩ := hf x hx
    obtain ⟨hyw, hys⟩ := hf y hy
    rw [ContextBefore, hxw, hxs, hyw, hys]
    exact hxy
  expired_length := h.expired_length
  expired_distinct := h.expired_distinct
  expired_closed e he c hc := by
    obtain ⟨x, hx, rfl⟩ := List.mem_map.1 hc
    obtain ⟨hxw, hxs⟩ := hf x hx
    rw [hxw, hxs]
    exact h.expired_closed e he x hx

end

/-! ### A context joins (R62, R63) -/

theorem before_iff (c d : Context) : c.before d = true ↔ ContextBefore c d := by
  simp [Context.before, ContextBefore]

/-- Two contexts of different slots stand in one order or the other. -/
theorem contextBefore_of_not {c d : Context} (h : ¬ ContextBefore c d)
    (hne : ¬ (d.window = c.window ∧ d.slot = c.slot)) : ContextBefore d c := by
  unfold ContextBefore at *
  omega

theorem ContextBefore.trans {a b c : Context} (h : ContextBefore a b) (h' : ContextBefore b c) :
    ContextBefore a c := by
  unfold ContextBefore at *
  omega

theorem insertContext_sorted {c : Context} {cs : List Context} (h : cs.Pairwise ContextBefore)
    (hne : ∀ d ∈ cs, ¬ (d.window = c.window ∧ d.slot = c.slot)) :
    (insertContext c cs).Pairwise ContextBefore := by
  induction cs with
  | nil => exact List.pairwise_singleton _ _
  | cons d rest ih =>
    obtain ⟨hd, hrest⟩ := List.pairwise_cons.1 h
    have ihr := ih hrest fun x hx => hne x (List.mem_cons_of_mem d hx)
    rw [insertContext]
    split
    · next hb =>
      have hcd := (before_iff c d).1 hb
      refine List.pairwise_cons.2 ⟨fun x hx => ?_, h⟩
      obtain rfl | hx := List.mem_cons.1 hx
      · exact hcd
      · exact ContextBefore.trans hcd (hd x hx)
    · next hb =>
      have hdc := contextBefore_of_not (mt (before_iff c d).2 hb) (hne d List.mem_cons_self)
      refine List.pairwise_cons.2 ⟨fun x hx => ?_, ihr⟩
      obtain rfl | hx := List.mem_cons.1 ((insertContext_perm c rest).mem_iff.1 hx)
      · exact hdc
      · exact hd x hx

theorem TablesInOrder.insert {cs : List Context} {es : List ExpiredEntry} {c : Context}
    (h : TablesInOrder cs es) (hroom : cs.length < 32)
    (hne : ∀ d ∈ cs, ¬ (d.window = c.window ∧ d.slot = c.slot)) :
    TablesInOrder (insertContext c cs)
      (es.filter fun x => !(x.window == c.window && x.slot == c.slot)) where
  contexts_length := by
    rw [(insertContext_perm c cs).length_eq]
    exact hroom
  contexts_sorted := insertContext_sorted h.contexts_sorted hne
  expired_length := (List.length_filter_le _ _).trans h.expired_length
  expired_distinct := h.expired_distinct.sublist List.filter_sublist
  expired_closed e he d hd := by
    obtain ⟨hmem, hother⟩ := List.mem_filter.1 he
    obtain rfl | hd := List.mem_cons.1 ((insertContext_perm c cs).mem_iff.1 hd)
    · simpa [imp_iff_not_or] using hother
    · exact h.expired_closed e hmem d hd

/-! ### Contexts end (R77 to R80) -/

/-- Two contexts of a table in order are of different slots. -/
theorem TablesInOrder.distinct {cs : List Context} {es : List ExpiredEntry}
    (h : TablesInOrder cs es) {c d : Context} (hc : c ∈ cs) (hd : d ∈ cs) (hne : c ≠ d) :
    c.window ≠ d.window ∨ c.slot ≠ d.slot := by
  have hall : ∀ x ∈ cs, ∀ y ∈ cs, x ≠ y → x.window ≠ y.window ∨ x.slot ≠ y.slot := by
    refine List.Pairwise.forall_of_forall_of_flip (fun x _ hx => absurd rfl hx)
      (h.contexts_sorted.imp fun {x y} hxy _ => ?_) (h.contexts_sorted.imp fun {x y} hxy _ => ?_)
    · unfold ContextBefore at hxy
      omega
    · unfold ContextBefore at hxy
      omega
  exact hall c hc d hd hne

/-- The entries of ended contexts, oldest first, after those that stand. -/
theorem entries_distinct {cs : List Context} {es : List ExpiredEntry} (h : TablesInOrder cs es)
    (picked : Context → Bool) (cause : EndCause) (now : Tick) :
    (es ++ (cs.filter picked).map fun c => expiredEntryOf c cause now).Pairwise
      fun e f => e.window ≠ f.window ∨ e.slot ≠ f.slot := by
  refine List.pairwise_append.2 ⟨h.expired_distinct, List.pairwise_map.2 ?_, fun e he f hf => ?_⟩
  · refine (h.contexts_sorted.sublist List.filter_sublist).imp fun {x y} hxy => ?_
    unfold ContextBefore at hxy
    show x.window ≠ y.window ∨ x.slot ≠ y.slot
    omega
  · obtain ⟨c, hc, rfl⟩ := List.mem_map.1 hf
    exact h.expired_closed e he c (List.mem_filter.1 hc).1

theorem TablesInOrder.endContexts {s : State} (h : TablesInOrder s.contexts s.expired)
    (picked : Context → Bool) (cause : EndCause) :
    TablesInOrder (endContexts picked cause s).contexts (endContexts picked cause s).expired := by
  rw [endContexts_eq picked cause s h.expired_length]
  refine ⟨(List.length_filter_le _ _).trans h.contexts_length,
    h.contexts_sorted.sublist List.filter_sublist, ?_,
    (entries_distinct h picked cause s.time.ticks).sublist (List.drop_sublist _ _),
    fun e he c hc => ?_⟩
  · simp only [newestEntries, List.length_drop]
    omega
  · obtain ⟨hc, hout⟩ := List.mem_filter.1 hc
    obtain he | he := List.mem_append.1 (List.mem_of_mem_drop he)
    · exact h.expired_closed e he c hc
    · obtain ⟨d, hd, rfl⟩ := List.mem_map.1 he
      obtain ⟨hd, hin⟩ := List.mem_filter.1 hd
      exact h.distinct hd hc fun heq => by simp [← heq, hin] at hout

theorem tablesInOrder_nil : TablesInOrder [] [] :=
  ⟨by simp, .nil, by simp, .nil, nofun⟩

/-! ### Every step (R62, R77, R87) -/

theorem contextTableInv_of_beside {s t : State} (h : Beside s t) (hs : ContextTableInv s) :
    ContextTableInv t := by
  rw [contextTableInv_iff, h.contexts, h.expired]
  exact (contextTableInv_iff s).1 hs

theorem contextTableInv_takeTamper {s : State} (hs : ContextTableInv s) :
    ContextTableInv (takeTamper s) := by
  cases h : s.store.latch with
  | true => exact contextTableInv_of_beside (alike_takeTamper_latched h).toBeside hs
  | false =>
    rw [takeTamper_clear h, contextTableInv_iff]
    exact (((contextTableInv_iff s).1 hs).endContexts (fun _ => true) .tamper).sublist
      (List.nil_sublist _) (List.Sublist.refl _)

theorem contextTableInv_activeBegun {s : State} (outcome : StoreOutcome) (hs : ContextTableInv s) :
    ContextTableInv (activeBegun outcome s) :=
  (contextTableInv_iff _).2 ((contextTableInv_iff s).1 hs)

theorem contextTableInv_enterActive {s : State} (outcome : StoreOutcome) (hs : ContextTableInv s) :
    ContextTableInv (enterActive outcome s) := by
  rw [enterActive_eq_takeUpNext]
  exact contextTableInv_of_beside (beside_takeUpNext _)
    (contextTableInv_activeBegun outcome (contextTableInv_of_beside (beside_settledAll s) hs))

theorem contextTableInv_checkFrom {s : State} (start : Nat) (hs : ContextTableInv s) :
    ContextTableInv (checkFrom start s) := by
  obtain ⟨p, key, h⟩ | ⟨outcome, h⟩ := checkFrom_cases start s
  · rw [h]
    exact contextTableInv_of_beside (beside_keys s rfl) hs
  · rw [h]
    exact contextTableInv_enterActive outcome hs

theorem withoutNewest_sublist (l : List ExpiredEntry) (w : Fin 8) (slot : Nat) :
    (withoutNewest l w slot).Sublist l := by
  have h := (List.eraseP_sublist (l := l.reverse) (p := fun e => e.isFor w slot)).reverse
  rwa [List.reverse_reverse] at h

theorem change_contextTable {c : Instr} {s t : State} (h : Change c s t) (hs : ContextTableInv s) :
    ContextTableInv t := by
  have htables := (contextTableInv_iff s).1 hs
  cases h with
  | nothing => exact hs
  | rewritten f h =>
    refine (contextTableInv_iff _).2 (htables.map fun x hx => ?_)
    obtain ⟨hw, hslot, -⟩ := h x hx
    exact ⟨hw, hslot⟩
  | @opened _ _ pl p e tail x low h =>
    refine contextTableInv_of_beside ((beside_spentTest _ _).trans (beside_takeUpNext _)) ?_
    have hne : ∀ d ∈ s.contexts, ¬ (d.window = x.window ∧ d.slot = x.slot) := fun d hd => by
      rw [h.window, h.slot]
      exact h.noContext d hd
    have hinsert := htables.insert h.room hne
    rw [h.window, h.slot] at hinsert
    exact (contextTableInv_iff _).2 hinsert
  | closed w slot =>
    exact (contextTableInv_iff _).2 (htables.sublist List.filter_sublist (List.Sublist.refl _))
  | reported w slot =>
    exact (contextTableInv_iff _).2
      (htables.sublist (List.Sublist.refl _) (withoutNewest_sublist _ w slot))
  | ended picked cause time =>
    exact (contextTableInv_iff _).2
      (TablesInOrder.endContexts (s := { s with time := time }) htables picked cause)
  | reset => exact (contextTableInv_iff _).2 tablesInOrder_nil
  | released => exact (contextTableInv_iff _).2 htables
  | releasedInTamper =>
    exact (contextTableInv_iff _).2
      ((contextTableInv_iff (takeTamper s)).1 (contextTableInv_takeTamper hs))
  | left outcome =>
    obtain ⟨-, -, hcontexts, hexpired⟩ := leaveLoading_rest outcome s
    rw [contextTableInv_iff, hcontexts, hexpired]
    exact htables
  | failedTest => exact (contextTableInv_iff _).2 htables
  | storeLost =>
    refine contextTableInv_enterActive _ ?_
    rw [loseStore_eq]
    exact (contextTableInv_iff _).2 htables
  | searched start =>
    exact contextTableInv_checkFrom start (contextTableInv_of_beside (beside_unitFreed s) hs)
  | searchedPast p =>
    exact contextTableInv_checkFrom _ (contextTableInv_of_beside
      ((beside_unitFreed s).trans (beside_erasePosition p _)) hs)
  | refilled =>
    exact contextTableInv_of_beside (((beside_unitFreed s).trans (beside_applyRefill _ _ _ _ _)).trans
      ((beside_spentTest _ _).trans (beside_takeUpNext _))) hs
  | unwrapped =>
    exact contextTableInv_of_beside (((beside_unitFreed s).trans (beside_judgeLoad _ _ _)).trans
      (beside_takeUpNext _)) hs
  | tampered => exact contextTableInv_takeTamper hs
  | accepted => exact contextTableInv_of_beside (beside_acceptLoad _ _ s) hs
  | erased p => exact contextTableInv_of_beside (beside_eraseKey p s) hs
  | switched => exact contextTableInv_of_beside (beside_switchKey _ s) hs
  | cleared => exact (contextTableInv_iff _).2 htables

/-- A period of the clock only counts, or it is a tick (R151). -/
theorem clockPeriod_cases (s : State) :
    clockPeriod s = s ∨
      PastLoading s ∧
        (s.time.count + 1 < s.time.prescaler.getD Config.passOnlyPrescaler ∧
            clockPeriod s = { s with time.count := s.time.count + 1 } ∨
          clockPeriod s = takeTick s) := by
  rw [clockPeriod]
  cases hr : timeRuns s with
  | false => exact .inl rfl
  | true =>
    refine .inr ⟨((timeRuns_iff s).1 hr).1, ?_⟩
    rw [if_pos rfl]
    split
    · next h => exact .inl ⟨h, rfl⟩
    · exact .inr rfl

/-- A step is a clock period or a command's effect. -/
theorem step_cases {s t : State} (h : step s = .next t) :
    t = clockPeriod s ∨ ∃ c rest, s.pending = c :: rest ∧ Effect c { s with pending := rest } t := by
  unfold step at h
  split at h
  · cases h
    exact .inl rfl
  · next c rest hp => exact .inr ⟨c, rest, hp, effect_of_exec h⟩

/-- Settles O55. -/
theorem stepsKeepTheContextTable : Obligations.StepsKeepTheContextTable := by
  intro s t hs h
  have htables := (contextTableInv_iff s).1 hs
  obtain rfl | ⟨c, rest, -, u, v, ⟨hsu, -⟩, hchange, hvt⟩ := step_cases h
  · obtain h | ⟨-, ⟨-, h⟩ | h⟩ := clockPeriod_cases s
    · rwa [h]
    · rw [h]
      exact (contextTableInv_iff _).2 htables
    · rw [h, takeTick_eq]
      exact (contextTableInv_iff _).2
        (TablesInOrder.endContexts (s := tickRaised s) htables _ .timeout)
  · have hu := contextTableInv_of_beside hsu.toBeside ((contextTableInv_iff _).2 htables)
    exact contextTableInv_of_beside hvt.toBeside (change_contextTable hchange hu)

end Sys2Proof.Machine
end

section
/-! SUPPORT. What the part state says of every block, and coverage within capacity, through every step
(sections 4, 8, 9 and 10). -/

namespace Sys2Proof.Machine

/-! ### The derivation unit in each part state (R126, R139, R141, R177) -/

/-- What each part state says of the derivation unit and of the load-in-progress mark. -/
structure UnitFits (state : PartState) (d : Derivation) (mark : Bool) : Prop where
  self_test : state = .selfTest → d.pendingLoad = none ∧
    ∃ o ∈ d.inFlight, o = .knownAnswer ∨ ∃ p k, o = .recompute p k
  active_work : state = .active →
    ∀ o ∈ d.inFlight, (∃ p n g k, o = .refill p n g k) ∨ ∃ p b, o = .unwrap p b
  idle_work : state ≠ .selfTest → state ≠ .active → d.pendingLoad = none ∧ d.inFlight = none
  pending_waits : d.pendingLoad ≠ none → ∃ p n g k, d.inFlight = some (.refill p n g k)
  mark : mark = true ↔ d.pendingLoad ≠ none ∨ ∃ p b, d.inFlight = some (.unwrap p b)

/-- What each part state says of the other blocks. -/
structure BlocksFit (s : State) : Prop where
  tables_active : s.part.state ≠ .active → s.contexts = [] ∧ s.expired = []
  records_none : ¬ HoldsRecords s → ∀ w : Fin 8, s.windows[w].record = none
  records_loaded : HoldsRecords s →
    ∀ w : Fin 8, ∃ r ∈ s.windows[w].record, r.enabled = true → r.wellFormed = true
  time_held : ¬ PastLoading s → s.time.prescaler = none ∧ s.time.count = 0 ∧ s.time.ticks = 0#32
  time_runs : PastLoading s → ∃ p ∈ s.time.prescaler, 1 ≤ p ∧ p ≤ 65536 ∧ s.time.count < p
  tracker_held : ¬ PastLoading s → s.tracker = State.reset.tracker

theorem phaseInv_iff (s : State) :
    PhaseInv s ↔ BlocksFit s ∧ UnitFits s.part.state s.derivation s.link.loadInProgress :=
  ⟨fun ⟨h1, h2, h3, h4, h5, h6, h7, h8, h9, h10, h11⟩ =>
      ⟨⟨h1, h2, h3, h4, h5, h6⟩, ⟨h7, h8, h9, h10, h11⟩⟩,
    fun ⟨⟨h1, h2, h3, h4, h5, h6⟩, ⟨h7, h8, h9, h10, h11⟩⟩ =>
      ⟨h1, h2, h3, h4, h5, h6, h7, h8, h9, h10, h11⟩⟩

/-- The unit in ACTIVE before it looks for its next operation: a load may be pending for it. -/
structure UnitWaits (d : Derivation) (mark : Bool) : Prop where
  work : ∀ o ∈ d.inFlight, (∃ p n g k, o = .refill p n g k) ∨ ∃ p b, o = .unwrap p b
  waits : d.pendingLoad ≠ none → d.inFlight = none ∨ ∃ p n g k, d.inFlight = some (.refill p n g k)
  mark : mark = true ↔ d.pendingLoad ≠ none ∨ ∃ p b, d.inFlight = some (.unwrap p b)

theorem UnitFits.waits {d : Derivation} {mark : Bool} (h : UnitFits .active d mark) :
    UnitWaits d mark :=
  ⟨h.active_work rfl, fun hp => .inr (h.pending_waits hp), h.mark⟩

/-- An idle unit without a load fits every state but SELF-TEST. -/
theorem unitFits_idle {state : PartState} {d : Derivation} {mark : Bool} (hs : state ≠ .selfTest)
    (hf : d.inFlight = none) (hp : d.pendingLoad = none) (hm : mark = false) :
    UnitFits state d mark where
  self_test h := absurd h hs
  active_work _ o ho := by
    rw [hf] at ho
    exact nomatch ho
  idle_work _ _ := ⟨hp, hf⟩
  pending_waits h := absurd hp h
  mark := by simp [hf, hp, hm]

/-- R141: looking for work takes up a pending load at once, unless a refill stands before it. -/
theorem unitFits_takeUpNext {s : State} (hs : s.part.state = .active)
    (h : UnitWaits s.derivation s.link.loadInProgress) :
    UnitFits (takeUpNext s).part.state (takeUpNext s).derivation
      (takeUpNext s).link.loadInProgress := by
  obtain ⟨hwork, hwaits, hmark⟩ := h
  by_cases hf : s.derivation.inFlight = none
  · rw [hf] at hmark
    cases hp : s.derivation.pendingLoad with
    | some load =>
      obtain ⟨p, b⟩ := load
      rw [takeUpNext_pending hs hf hp, hs]
      refine ⟨nofun, fun _ o ho => .inr ⟨p, some b, ?_⟩, fun _ h => absurd rfl h,
        fun h => absurd rfl h, iff_of_true (hmark.2 (.inl (by rw [hp]; nofun))) (.inr ⟨p, some b, rfl⟩)⟩
      cases ho
      rfl
    | none =>
      have hfalse : ¬ s.link.loadInProgress = true := fun h => by simpa [hp] using hmark.1 h
      rw [takeUpNext_no_pending hs hf hp]
      cases nextRefill s with
      | none =>
        rw [Option.elim_none, hs]
        exact unitFits_idle nofun hf hp (Bool.eq_false_iff.2 hfalse)
      | some p =>
        rw [Option.elim_some, takeUpRefill_eq, hs]
        refine ⟨nofun, fun _ o ho => .inl ?_, fun _ h => absurd rfl h, fun h => absurd hp h,
          iff_of_false hfalse ?_⟩
        · cases ho
          exact ⟨_, _, _, _, rfl⟩
        · rintro (h | ⟨q, b, h⟩)
          · exact h hp
          · exact nomatch h
  · rw [takeUpNext_not_free (.inr hf), hs]
    exact ⟨nofun, fun _ => hwork, fun _ h => absurd rfl h,
      fun h => (hwaits h).resolve_left hf, hmark⟩

/-- A void operation is of the kind it was. -/
theorem map_voidOperation_eq_unwrap_iff (x : Option Operation) :
    (∃ p b, x.map voidOperation = some (.unwrap p b)) ↔ ∃ p b, x = some (.unwrap p b) := by
  cases x with
  | none => simp
  | some o => cases o <;> simp [voidOperation]

/-- Tamper clears the working copy and drops a pending load, whose mark goes with it (R127, R149). -/
theorem unitFits_tampered {s : State}
    (h : UnitFits s.part.state s.derivation s.link.loadInProgress) :
    UnitFits s.part.state (tampered s).derivation (tampered s).link.loadInProgress := by
  obtain ⟨hself, hactive, hidle, hwaits, hmark⟩ := h
  have hlink : (tampered s).link.loadInProgress =
      if s.derivation.pendingLoad = none then s.link.loadInProgress else false := by
    rw [tampered]
    dsimp only
    split <;> rfl
  rw [tampered_derivation, hlink]
  refine ⟨fun hs => ?_, fun hs o ho => ?_, fun hs ha => ?_, fun h => absurd rfl h, ?_⟩
  · obtain ⟨-, o, ho, hkind⟩ := hself hs
    refine ⟨rfl, voidOperation o, Option.mem_map_of_mem _ ho, ?_⟩
    obtain rfl | ⟨p, k, rfl⟩ := hkind
    · exact .inl rfl
    · exact .inr ⟨p, none, rfl⟩
  · obtain ⟨o', ho', rfl⟩ := Option.mem_map.1 ho
    obtain ⟨p, n, g, k, rfl⟩ | ⟨p, b, rfl⟩ := hactive hs o' ho'
    · exact .inl ⟨p, n, g, none, rfl⟩
    · exact .inr ⟨p, none, rfl⟩
  · exact ⟨rfl, by rw [(hidle hs ha).2]; rfl⟩
  · rw [map_voidOperation_eq_unwrap_iff]
    by_cases hp : s.derivation.pendingLoad = none
    · rw [if_pos hp, hmark]
      simp [hp]
    · obtain ⟨p, n, g, k, hf⟩ := hwaits hp
      simp [hp, hf]

/-! ### The other blocks -/

/-- The blocks fit a state of the same records whose clock has at most counted afresh. -/
theorem BlocksFit.transport {s t : State} (h : BlocksFit s) (hstate : t.part.state = s.part.state)
    (hrecords : ∀ w : Fin 8, t.windows[w].record = s.windows[w].record)
    (htime : t.time = s.time ∨
      PastLoading s ∧ t.time.prescaler = s.time.prescaler ∧ t.time.count ≤ s.time.count)
    (htracker : ¬ PastLoading s → s.tracker = State.reset.tracker → t.tracker = State.reset.tracker)
    (htables : s.part.state ≠ .active → t.contexts = [] ∧ t.expired = []) : BlocksFit t := by
  have hpast : PastLoading t ↔ PastLoading s := by rw [PastLoading, PastLoading, hstate]
  have hholds : HoldsRecords t ↔ HoldsRecords s := by rw [HoldsRecords, HoldsRecords, hstate]
  refine ⟨fun hs => htables (hstate ▸ hs), fun hn w => ?_, fun hr w => ?_, fun hn => ?_,
    fun hp => ?_, fun hn => ?_⟩
  · rw [hrecords w]
    exact h.records_none (mt hholds.2 hn) w
  · rw [hrecords w]
    exact h.records_loaded (hholds.1 hr) w
  · have hn' := mt hpast.2 hn
    obtain heq | ⟨hp, -⟩ := htime
    · rw [heq]
      exact h.time_held hn'
    · exact absurd hp hn'
  · obtain ⟨p, hp', hlo, hhi, hcount⟩ := h.time_runs (hpast.1 hp)
    obtain heq | ⟨-, hsetting, hle⟩ := htime
    · rw [heq]
      exact ⟨p, hp', hlo, hhi, hcount⟩
    · rw [hsetting]
      exact ⟨p, hp', hlo, hhi, hle.trans_lt hcount⟩
  · exact htracker (mt hpast.2 hn) (h.tracker_held (mt hpast.2 hn))

theorem BlocksFit.of_beside {s t : State} (h : BlocksFit s) (hb : Beside s t) : BlocksFit t := by
  refine h.transport hb.state hb.records (.inl hb.time) hb.tracker fun hs => ?_
  rw [hb.contexts, hb.expired]
  exact h.tables_active hs

/-- SELF-TEST ends with the blocks as they are; only ACTIVE may hold contexts (R85). -/
theorem BlocksFit.activeBegun {s : State} (outcome : StoreOutcome) (h : BlocksFit s)
    (hs : s.part.state = .selfTest) : BlocksFit (activeBegun outcome s) where
  tables_active h := absurd rfl h
  records_none h := absurd (.inr (.inl rfl)) h
  records_loaded _ := h.records_loaded (.inl hs)
  time_held h := absurd ⟨nofun, nofun⟩ h
  time_runs _ := h.time_runs (by rw [PastLoading, hs]; exact ⟨nofun, nofun⟩)
  tracker_held h := absurd ⟨nofun, nofun⟩ h

theorem phaseInv_of_alike {s t : State} (h : Alike s t) (hs : PhaseInv s) : PhaseInv t := by
  obtain ⟨hblocks, hunit⟩ := (phaseInv_iff s).1 hs
  refine (phaseInv_iff t).2 ⟨hblocks.of_beside h.toBeside, ?_⟩
  rw [h.state, h.derivation, h.mark]
  exact hunit

/-- What the unit takes up in ACTIVE fits beside blocks that fit. -/
theorem phaseInv_takeUpNext {s : State} (hs : s.part.state = .active) (hblocks : BlocksFit s)
    (hunit : UnitWaits s.derivation s.link.loadInProgress) : PhaseInv (takeUpNext s) :=
  (phaseInv_iff _).2 ⟨hblocks.of_beside (beside_takeUpNext s), unitFits_takeUpNext hs hunit⟩

/-! ### What the operations on keys leave of the derivation unit -/

/-- Neither the unit nor the mark is touched. -/
def SameUnit (s t : State) : Prop :=
  t.derivation = s.derivation ∧ t.link.loadInProgress = s.link.loadInProgress

theorem SameUnit.trans {s t u : State} (h : SameUnit s t) (h' : SameUnit t u) : SameUnit s u :=
  ⟨h'.1.trans h.1, h'.2.trans h.2⟩

theorem sameUnit_spentTest (p : Fin 16) (s : State) : SameUnit s (spentTest p s) := by
  rw [spentTest_eq]
  split <;> exact ⟨rfl, rfl⟩

theorem sameUnit_applyRefill (p : Fin 16) (n : Nat) (g : BitVec 32) (key : Option (Block × KeyId))
    (s : State) : SameUnit s (applyRefill p n g key s) := by
  unfold applyRefill
  split
  · exact ⟨rfl, rfl⟩
  · split <;> exact ⟨rfl, rfl⟩

theorem sameUnit_settleWindow (s : State) (w : Fin 8) : SameUnit s (settleWindow s w) := by
  unfold settleWindow
  split
  · exact ⟨rfl, rfl⟩
  · split
    · exact ⟨rfl, rfl⟩
    · exact ⟨(alike_raiseNoticeWhen _ _ s).derivation, (alike_raiseNoticeWhen _ _ s).mark⟩

theorem sameUnit_foldl {α : Type} {f : State → α → State} (h : ∀ s x, SameUnit s (f s x))
    (l : List α) (s : State) : SameUnit s (l.foldl f s) := by
  induction l generalizing s with
  | nil => exact ⟨rfl, rfl⟩
  | cons x l ih => exact (h s x).trans (ih _)

theorem sameUnit_settledAll (s : State) : SameUnit s (settledAll s) :=
  (sameUnit_foldl (fun s p => sameUnit_spentTest p s) _ s).trans
    (sameUnit_foldl sameUnit_settleWindow _ _)

/-- The unit is idle and no load is in progress. -/
structure UnitIdle (s : State) : Prop where
  inFlight : s.derivation.inFlight = none
  pendingLoad : s.derivation.pendingLoad = none
  mark : s.link.loadInProgress = false

theorem UnitIdle.of_same {s t : State} (h : UnitIdle s) (hst : SameUnit s t) : UnitIdle t :=
  ⟨by rw [hst.1]; exact h.inFlight, by rw [hst.1]; exact h.pendingLoad, hst.2.trans h.mark⟩

theorem UnitIdle.waits {s : State} (h : UnitIdle s) :
    UnitWaits s.derivation s.link.loadInProgress :=
  (unitFits_idle (state := .active) nofun h.inFlight h.pendingLoad h.mark).waits

theorem phaseInv_activeBegun {s : State} (outcome : StoreOutcome) (hs : s.part.state = .selfTest)
    (hblocks : BlocksFit s) (hidle : UnitIdle s) :
    PhaseInv (takeUpNext (activeBegun outcome s)) :=
  phaseInv_takeUpNext rfl (hblocks.activeBegun outcome hs) hidle.waits

theorem phaseInv_enterActive {s : State} (outcome : StoreOutcome) (hs : s.part.state = .selfTest)
    (hblocks : BlocksFit s) (hidle : UnitIdle s) : PhaseInv (enterActive outcome s) := by
  rw [enterActive_eq_takeUpNext]
  have hbeside := beside_settledAll s
  exact phaseInv_activeBegun outcome (hbeside.state.trans hs) (hblocks.of_beside hbeside)
    (hidle.of_same (sameUnit_settledAll s))

/-- R159: the search ends in a recomputation, or in ACTIVE. -/
theorem phaseInv_checkFrom {s : State} (start : Nat) (hs : s.part.state = .selfTest)
    (hblocks : BlocksFit s) (hidle : UnitIdle s) : PhaseInv (checkFrom start s) := by
  obtain ⟨p, key, h⟩ | ⟨outcome, h⟩ := checkFrom_cases start s
  · rw [h]
    refine (phaseInv_iff _).2 ⟨hblocks.of_beside (beside_keys s rfl), ?_⟩
    refine ⟨fun _ => ⟨hidle.pendingLoad, _, rfl, .inr ⟨p, key, rfl⟩⟩, fun ha => ?_,
      fun hn => absurd hs hn, fun h => absurd hidle.pendingLoad h, ?_⟩
    · exact absurd (hs.symm.trans ha) nofun
    · refine iff_of_false (Bool.eq_false_iff.1 hidle.mark) ?_
      rintro (h | ⟨q, b, h⟩)
      · exact h hidle.pendingLoad
      · exact nomatch h
  · rw [h]
    exact phaseInv_enterActive outcome hs hblocks hidle

/-- In SELF-TEST the unit is idle once its operation has ended. -/
theorem unitIdle_unitFreed {s : State} (h : PhaseInv s) (hs : s.part.state = .selfTest) :
    UnitIdle (unitFreed s) := by
  obtain ⟨hp, o, ho, hkind⟩ := h.self_test hs
  refine ⟨rfl, hp, Bool.eq_false_iff.2 fun hm => ?_⟩
  obtain h | ⟨p, b, hf⟩ := h.mark.1 hm
  · exact h hp
  · rw [hf] at ho
    cases ho
    obtain h | ⟨q, k, h⟩ := hkind
    · exact nomatch h
    · exact nomatch h

/-! ### Tamper and the end of LOADING -/

theorem blocksFit_takeTamper {s : State} (h : BlocksFit s) : BlocksFit (takeTamper s) := by
  cases hl : s.store.latch with
  | true => exact h.of_beside (alike_takeTamper_latched hl).toBeside
  | false =>
    rw [takeTamper_clear hl]
    refine h.transport rfl (tampered_record s) (.inl rfl) (fun _ h => h) fun hs => ⟨rfl, ?_⟩
    obtain ⟨hcontexts, hexpired⟩ := h.tables_active hs
    simp [hcontexts, hexpired]

theorem unitFits_takeTamper {s : State}
    (h : UnitFits s.part.state s.derivation s.link.loadInProgress) :
    UnitFits s.part.state (takeTamper s).derivation (takeTamper s).link.loadInProgress := by
  cases hl : s.store.latch with
  | true =>
    have halike := alike_takeTamper_latched hl
    rw [halike.derivation, halike.mark]
    exact h
  | false =>
    rw [takeTamper_clear hl]
    exact unitFits_tampered h

theorem phaseInv_takeTamper {s : State} (h : PhaseInv s) : PhaseInv (takeTamper s) := by
  obtain ⟨hblocks, hunit⟩ := (phaseInv_iff s).1 h
  refine (phaseInv_iff _).2 ⟨blocksFit_takeTamper hblocks, ?_⟩
  rw [takeTamper_state]
  exact unitFits_takeTamper hunit

/-- RESET and LOADING say the same of every block. -/
theorem phaseInv_beginLoading {s : State} (hs : s.part.state = .reset) (h : PhaseInv s) :
    PhaseInv (beginLoading s) := by
  have hpast : ¬ PastLoading s := fun hp => hp.1 hs
  have hnone : ¬ HoldsRecords s := by simp [HoldsRecords, hs]
  obtain ⟨hp, hf⟩ := h.idle_work (by simp [hs]) (by simp [hs])
  have hmark : ¬ s.link.loadInProgress = true := fun hm => by simpa [hp, hf] using h.mark.1 hm
  refine (phaseInv_iff _).2 ⟨⟨fun _ => h.tables_active (by simp [hs]), fun _ => h.records_none hnone,
    fun hr => ?_, fun _ => h.time_held hpast, fun hp => absurd rfl hp.2,
    fun _ => h.tracker_held hpast⟩, unitFits_idle nofun hf hp (Bool.eq_false_iff.2 hmark)⟩
  exact absurd hr (by simp [HoldsRecords, beginLoading])

/-- R45, R170: a valid image has well formed records alone. -/
theorem wellFormed_of_checkImage_valid {image : List Byte} (hlen : image.length = 138)
    (h : checkImage image = .valid) (w : Fin 8) (he : (imageRecord image w).enabled = true) :
    (imageRecord image w).wellFormed = true := by
  have hvalid := windowsOutcome_of_checkImage_valid hlen h
  rw [windowsOutcome] at hvalid
  cases hbad : firstBadWindow image with
  | some v =>
    rw [hbad] at hvalid
    exact nomatch hvalid
  | none =>
    by_contra hnot
    have hfound := List.find?_eq_none.1 hbad w (List.mem_finRange w)
    simp [he, hnot] at hfound

theorem fieldBE_lt (bytes : List Byte) (offset n : Nat) : fieldBE bytes offset n < 256 ^ n :=
  (numberBE_lt _).trans_le (Nat.pow_le_pow_right (by decide) (List.length_take_le _ _))

theorem phaseInv_leaveLoading {s : State} {outcome : ImageOutcome} (hs : s.part.state = .loading)
    (h : PhaseInv s) (hvalid : outcome = .valid → s.loader.workingCopy.length = 138 ∧
      checkImage s.loader.workingCopy = .valid) : PhaseInv (leaveLoading outcome s) := by
  obtain ⟨hp, hf⟩ := h.idle_work (by simp [hs]) (by simp [hs])
  have hmark : ¬ s.link.loadInProgress = true := fun hm => by simpa [hp, hf] using h.mark.1 hm
  have htables := h.tables_active (by simp [hs])
  have hnone : ¬ HoldsRecords s := by simp [HoldsRecords, hs]
  rw [leaveLoading]
  split
  · next hout =>
    obtain ⟨hlen, hcheck⟩ := hvalid hout
    have hlt := fieldBE_lt s.loader.workingCopy 4 2
    refine (phaseInv_iff _).2 ⟨⟨fun _ => htables, fun hn => absurd (.inl rfl) hn, fun _ w => ?_,
      fun hn => absurd ⟨nofun, nofun⟩ hn,
      fun _ => ⟨_, rfl, Nat.succ_pos _, Nat.succ_le_of_lt hlt, Nat.succ_pos _⟩,
      fun hn => absurd ⟨nofun, nofun⟩ hn⟩, ⟨fun _ => ⟨hp, _, rfl, .inl rfl⟩, nofun,
      fun hn => absurd rfl hn, fun hn => absurd hp hn, iff_of_false hmark ?_⟩⟩
    · refine ⟨imageRecord s.loader.workingCopy w, ?_, wellFormed_of_checkImage_valid hlen hcheck w⟩
      rw [leaveValid, loadedWindows]
      simp only [ofFn_getElem_fin]
      rfl
    · rintro (h | ⟨q, b, h⟩)
      · exact h hp
      · exact nomatch h
  · refine (phaseInv_iff _).2 ⟨⟨fun _ => htables, fun _ => h.records_none hnone, fun hr => ?_,
      fun hn => absurd ⟨nofun, nofun⟩ hn, fun _ => ⟨_, rfl, by decide, by decide,
        (by decide : 0 < Config.passOnlyPrescaler)⟩,
      fun hn => absurd ⟨nofun, nofun⟩ hn⟩, unitFits_idle nofun hf hp (Bool.eq_false_iff.2 hmark)⟩
    exact absurd hr (by simp [HoldsRecords, leaveFailed])

end Sys2Proof.Machine
end

section
/-! SUPPORT. Every step keeps what the part state says of every block, and coverage within capacity. -/

namespace Sys2Proof.Machine

/-! ### The phase through a change -/

theorem recordsHold_of_phase {s : State} (h : PhaseInv s) : RecordsHold s := by
  intro w r hr he
  by_cases hh : HoldsRecords s
  · obtain ⟨r', hr', hwell⟩ := h.records_loaded hh w
    obtain rfl : r' = r := Option.some.inj (hr'.symm.trans hr)
    exact hwell he
  · exact nomatch (h.records_none hh w).symm.trans hr

/-- A change of the contexts and of what stands in no block of the phase. -/
theorem phaseInv_of_tables {s t : State} (h : PhaseInv s) (hstate : t.part.state = s.part.state)
    (hrecords : ∀ w : Fin 8, t.windows[w].record = s.windows[w].record)
    (htime : t.time = s.time ∨
      PastLoading s ∧ t.time.prescaler = s.time.prescaler ∧ t.time.count ≤ s.time.count)
    (htracker : t.tracker = s.tracker) (hunit : SameUnit s t)
    (htables : s.part.state ≠ .active → t.contexts = [] ∧ t.expired = []) : PhaseInv t := by
  obtain ⟨hblocks, hfits⟩ := (phaseInv_iff s).1 h
  refine (phaseInv_iff t).2 ⟨hblocks.transport hstate hrecords htime
    (fun _ ht => htracker.trans ht) htables, ?_⟩
  rw [hstate, hunit.1, hunit.2]
  exact hfits

theorem blocksFit_headDrawn {s : State} (h : BlocksFit s) (hs : s.part.state = .active)
    (pl : Placement) (p : Fin 16) (tail : List PoolEntry) (c : Context) (low : Bool) :
    BlocksFit (headDrawn s pl p tail c low) :=
  h.transport rfl (fun _ => rfl) (.inl rfl) (fun _ h => h) fun hn => absurd hs hn

/-- Refills and unwraps are in flight in ACTIVE alone (R126, R139, R159). -/
theorem active_of_inFlight {s : State} {o : Operation} (h : PhaseInv s)
    (hf : s.derivation.inFlight = some o) (htest : o ≠ .knownAnswer)
    (hcheck : ∀ p k, o ≠ .recompute p k) : s.part.state = .active := by
  by_contra hn
  by_cases ht : s.part.state = .selfTest
  · obtain ⟨-, o', ho, hkind⟩ := h.self_test ht
    obtain rfl : o = o' := Option.some.inj (hf.symm.trans ho)
    obtain h | ⟨q, k, h⟩ := hkind
    · exact htest h
    · exact hcheck q k h
  · exact nomatch hf.symm.trans (h.idle_work ht hn).2

/-- A refill ends: a pending load may now be taken up. -/
theorem unitWaits_of_refill {s : State} {p : Fin 16} {n : Nat} {g : BitVec 32}
    {key : Option (Block × KeyId)} (h : PhaseInv s)
    (hf : s.derivation.inFlight = some (.refill p n g key)) :
    UnitWaits (unitFreed s).derivation (unitFreed s).link.loadInProgress := by
  refine ⟨nofun, fun _ => .inl rfl, h.mark.trans ?_⟩
  rw [hf]
  simp [unitFreed]

/-- No load waits behind an unwrap. -/
theorem pendingLoad_of_unwrap {s : State} {p : Fin 16} {block : Option KeyBlock} (h : PhaseInv s)
    (hf : s.derivation.inFlight = some (.unwrap p block)) : s.derivation.pendingLoad = none := by
  by_contra hp
  obtain ⟨q, n, g, k, hr⟩ := h.pending_waits hp
  exact nomatch hf.symm.trans hr

theorem judgeLoad_unit (p : Fin 16) (block : Option KeyBlock) (s : State) :
    (judgeLoad p block s).derivation = s.derivation ∧
      (judgeLoad p block s).link.loadInProgress = false := by
  cases block with
  | none => exact ⟨rfl, rfl⟩
  | some b =>
    rw [judgeLoad_eq]
    split
    · exact ⟨rfl, rfl⟩
    · split <;> exact ⟨rfl, rfl⟩

theorem unitIdle_judgeLoad {s : State} {p : Fin 16} {block : Option KeyBlock} (h : PhaseInv s)
    (hf : s.derivation.inFlight = some (.unwrap p block)) :
    UnitIdle (judgeLoad p block (unitFreed s)) := by
  obtain ⟨hunit, hmark⟩ := judgeLoad_unit p block (unitFreed s)
  have hpending : (unitFreed s).derivation.pendingLoad = none := pendingLoad_of_unwrap (s := s) h hf
  exact ⟨by rw [hunit]; rfl, by rw [hunit, hpending], hmark⟩

/-- Key positions may change beside the unit, which then looks for work. -/
theorem phaseInv_takeUpNext_of_same {s t : State} (h : PhaseInv s) (hb : Beside s t)
    (hst : SameUnit s t) : PhaseInv (takeUpNext t) := by
  obtain ⟨hblocks, hunit⟩ := (phaseInv_iff s).1 h
  by_cases hs : s.part.state = .active
  · refine phaseInv_takeUpNext (hb.state.trans hs) (hblocks.of_beside hb) ?_
    rw [hst.1, hst.2]
    rw [hs] at hunit
    exact hunit.waits
  · rw [takeUpNext_not_free (.inl (by rw [hb.state]; exact hs))]
    refine (phaseInv_iff t).2 ⟨hblocks.of_beside hb, ?_⟩
    rw [hb.state, hst.1, hst.2]
    exact hunit

theorem phaseInv_acceptLoad {s : State} (p : Fin 16) (b : KeyBlock) (h : PhaseInv s)
    (hs : s.part.state = .active) (hmark : s.link.loadInProgress = false) :
    PhaseInv (acceptLoad p b s) := by
  obtain ⟨hblocks, hunit⟩ := (phaseInv_iff s).1 h
  have hwork := h.active_work hs
  have hnone : ¬ ∃ q c, s.derivation.inFlight = some (.unwrap q c) := fun hu =>
    Bool.eq_false_iff.1 hmark (h.mark.2 (.inr hu))
  refine phaseInv_takeUpNext hs (hblocks.of_beside (beside_keys s rfl))
    ⟨hwork, fun _ => ?_, iff_of_true rfl (.inl nofun)⟩
  cases hf : s.derivation.inFlight with
  | none => exact .inl hf
  | some o =>
    obtain ⟨q, n, g, k, rfl⟩ | ⟨q, c, rfl⟩ := hwork o hf
    · exact .inr ⟨q, n, g, k, hf⟩
    · exact absurd ⟨q, c, hf⟩ hnone

theorem beside_erased (p : Fin 16) (s : State) :
    ∃ u, eraseKey p s = takeUpNext u ∧ Beside s u ∧ SameUnit s u := by
  rw [eraseKey_eq]
  exact ⟨_, rfl, beside_keys s rfl, rfl, rfl⟩

theorem beside_switched {s : State} {p : Fin 16}
    (hr : s.store.positions[partner p].state = .ready) :
    ∃ u, switchKey p s = takeUpNext u ∧ Beside s u ∧ SameUnit s u := by
  rw [switchKey_of_ready hr]
  exact ⟨_, rfl, beside_keys s rfl, rfl, rfl⟩

theorem blocksFit_loseStore {s : State} (h : BlocksFit s) : BlocksFit (loseStore s) := by
  refine h.transport ?_ (loseStore_record s) (.inl ?_) (fun _ ht => ?_) fun hs => ?_
  all_goals rw [loseStore_eq]
  · exact ht
  · exact h.tables_active hs

theorem sameUnit_loseStore (s : State) : SameUnit s (loseStore s) := by
  rw [loseStore_eq]
  exact ⟨rfl, rfl⟩

theorem phaseInv_enterFault {s : State} (h : PhaseInv s) (hs : s.part.state = .selfTest) :
    PhaseInv (enterFault (unitFreed s)) := by
  obtain ⟨hf, hp, hm⟩ := unitIdle_unitFreed h hs
  have htables := h.tables_active (by simp [hs])
  refine (phaseInv_iff _).2 ⟨⟨fun _ => htables, fun hn => absurd (.inr (.inr rfl)) hn,
    fun _ => h.records_loaded (.inl hs), fun hn => absurd ⟨nofun, nofun⟩ hn,
    fun _ => h.time_runs (by simp [PastLoading, hs]), fun hn => absurd ⟨nofun, nofun⟩ hn⟩,
    unitFits_idle nofun hf hp hm⟩

theorem reset_record : ∀ w : Fin 8, State.reset.windows[w].record = none := by decide

theorem change_phase {c : Instr} {s t : State} (h : Change c s t) (hs : PhaseInv s) :
    PhaseInv t := by
  obtain ⟨hblocks, hunit⟩ := (phaseInv_iff s).1 hs
  cases h with
  | nothing => exact hs
  | rewritten f h =>
    refine phaseInv_of_tables hs rfl (fun _ => rfl) (.inl rfl) rfl ⟨rfl, rfl⟩ fun hn => ?_
    obtain ⟨hcontexts, hexpired⟩ := hs.tables_active hn
    exact ⟨by rw [hcontexts]; rfl, hexpired⟩
  | @opened _ _ pl p e tail x low h =>
    have hdrawn : SameUnit s (spentTest p (headDrawn s pl p tail x low)) :=
      sameUnit_spentTest p (headDrawn s pl p tail x low)
    refine phaseInv_takeUpNext ((beside_spentTest _ _).state.trans h.active)
      ((blocksFit_headDrawn hblocks h.active pl p tail x low).of_beside (beside_spentTest _ _)) ?_
    rw [hdrawn.1, hdrawn.2]
    rw [h.active] at hunit
    exact hunit.waits
  | closed w slot seq h =>
    refine phaseInv_of_tables hs rfl (fun _ => rfl) (.inl rfl) rfl ⟨rfl, rfl⟩ fun hn => ?_
    obtain ⟨hcontexts, hexpired⟩ := hs.tables_active hn
    exact ⟨by rw [hcontexts]; rfl, hexpired⟩
  | reported w slot =>
    refine phaseInv_of_tables hs rfl (fun _ => rfl) (.inl rfl) rfl ⟨rfl, rfl⟩ fun hn => ?_
    obtain ⟨hcontexts, hexpired⟩ := hs.tables_active hn
    exact ⟨hcontexts, by rw [hexpired]; rfl⟩
  | ended picked cause time hpast hsetting hcount =>
    refine phaseInv_of_tables hs rfl (fun _ => rfl) (.inr ⟨hpast, hsetting, hcount⟩) rfl ⟨rfl, rfl⟩
      fun hn => ?_
    obtain ⟨hcontexts, hexpired⟩ := hs.tables_active hn
    simp [hcontexts, hexpired]
  | reset fate => exact phaseInv_of_reset rfl rfl rfl reset_record rfl rfl rfl rfl
  | released h => exact phaseInv_beginLoading h hs
  | releasedInTamper h =>
    exact phaseInv_beginLoading ((takeTamper_state s).trans h) (phaseInv_takeTamper hs)
  | left outcome h hvalid => exact phaseInv_leaveLoading h hs hvalid
  | failedTest h => exact phaseInv_enterFault hs h
  | storeLost h =>
    have hidle := (unitIdle_unitFreed hs h).of_same (sameUnit_loseStore (unitFreed s))
    refine phaseInv_enterActive _ ?_
      (blocksFit_loseStore (hblocks.of_beside (beside_unitFreed s))) hidle
    rw [loseStore_eq]
    exact h
  | searched start h =>
    exact phaseInv_checkFrom start h (hblocks.of_beside (beside_unitFreed s))
      (unitIdle_unitFreed hs h)
  | searchedPast p h =>
    exact phaseInv_checkFrom _ h
      (hblocks.of_beside ((beside_unitFreed s).trans (beside_erasePosition p _)))
      ((unitIdle_unitFreed hs h).of_same ⟨rfl, rfl⟩)
  | @refilled _ p n g key h =>
    have hsame := (sameUnit_applyRefill p n g key (unitFreed s)).trans (sameUnit_spentTest p _)
    have hbeside := ((beside_unitFreed s).trans (beside_applyRefill p n g key _)).trans
      (beside_spentTest p _)
    refine phaseInv_takeUpNext (hbeside.state.trans (active_of_inFlight hs h nofun nofun))
      (hblocks.of_beside hbeside) ?_
    rw [hsame.1, hsame.2]
    exact unitWaits_of_refill hs h
  | @unwrapped _ p block h =>
    have hbeside := (beside_unitFreed s).trans (beside_judgeLoad p block _)
    exact phaseInv_takeUpNext (hbeside.state.trans (active_of_inFlight hs h nofun nofun))
      (hblocks.of_beside hbeside) (unitIdle_judgeLoad hs h).waits
  | tampered => exact phaseInv_takeTamper hs
  | accepted h hmark => exact phaseInv_acceptLoad _ _ hs h hmark
  | erased p =>
    obtain ⟨u, heq, hbeside, hsame⟩ := beside_erased p s
    rw [heq]
    exact phaseInv_takeUpNext_of_same hs hbeside hsame
  | switched h hactive hready =>
    obtain ⟨u, heq, hbeside, hsame⟩ := beside_switched hready
    rw [heq]
    exact phaseInv_takeUpNext_of_same hs hbeside hsame
  | cleared =>
    exact phaseInv_of_tables hs rfl (clearTamper_record s) (.inl rfl) rfl ⟨rfl, rfl⟩
      hs.tables_active

/-! ### Coverage through a change -/

theorem ContextFits.of_records {s t : State} {c : Context} (h : ContextFits s c)
    (hrecords : ∀ w : Fin 8, t.windows[w].record = s.windows[w].record) : ContextFits t c := by
  obtain ⟨r, hr, hrest⟩ := h
  exact ⟨r, (hrecords c.window).trans hr, hrest⟩

/-- No context is new and the records stand. -/
theorem coverageInv_of_subset {s t : State} (h : CoverageInv s)
    (hrecords : ∀ w : Fin 8, t.windows[w].record = s.windows[w].record)
    (hcontexts : t.contexts ⊆ s.contexts) : CoverageInv t :=
  fun c hc => ContextFits.of_records (h c (hcontexts hc)) hrecords

theorem coverageInv_of_beside {s t : State} (h : Beside s t) (hs : CoverageInv s) :
    CoverageInv t :=
  coverageInv_of_subset hs h.records (by rw [h.contexts]; exact List.Subset.refl _)

theorem activeBegun_contexts (outcome : StoreOutcome) (s : State) :
    (activeBegun outcome s).contexts = s.contexts := rfl

theorem enterActive_contexts (outcome : StoreOutcome) (s : State) :
    (enterActive outcome s).contexts = s.contexts := by
  rw [enterActive_eq_takeUpNext, (beside_takeUpNext _).contexts, activeBegun_contexts,
    (beside_settledAll s).contexts]

theorem checkFrom_contexts (start : Nat) (s : State) :
    (checkFrom start s).contexts = s.contexts := by
  obtain ⟨p, key, h⟩ | ⟨outcome, h⟩ := checkFrom_cases start s
  · rw [h]
  · rw [h, enterActive_contexts]

theorem coverageInv_takeTamper {s : State} (hs : CoverageInv s) : CoverageInv (takeTamper s) := by
  cases h : s.store.latch with
  | true => exact coverageInv_of_beside (alike_takeTamper_latched h).toBeside hs
  | false =>
    rw [takeTamper_clear h]
    exact coverageInv_of_empty rfl

theorem change_coverage {c : Instr} {s t : State} (h : Change c s t) (hp : PhaseInv s)
    (hs : CoverageInv s) : CoverageInv t := by
  have hnone : s.part.state = .selfTest → s.contexts = [] :=
    fun h => (hp.tables_active (by simp [h])).1
  cases h with
  | nothing => exact hs
  | rewritten f h =>
    intro x hx
    obtain ⟨y, hy, rfl⟩ := List.mem_map.1 hx
    obtain ⟨-, -, z, hz, -, -, -, hfits⟩ := h y hy
    exact (hfits (recordsHold_of_phase hp) (hs z hz)).of_records fun _ => rfl
  | @opened _ _ pl p e tail x low h =>
    refine coverageInv_of_beside ((beside_spentTest _ _).trans (beside_takeUpNext _)) fun y hy => ?_
    obtain rfl | hy := List.mem_cons.1 ((insertContext_perm x s.contexts).mem_iff.1 hy)
    · exact (h.fits (recordsHold_of_phase hp)).of_records fun _ => rfl
    · exact ContextFits.of_records (hs y hy) fun _ => rfl
  | closed => exact coverageInv_of_subset hs (fun _ => rfl) fun _ hx => List.mem_of_mem_filter hx
  | reported => exact coverageInv_of_subset hs (fun _ => rfl) (List.Subset.refl _)
  | ended => exact coverageInv_of_subset hs (fun _ => rfl) fun _ hx => List.mem_of_mem_filter hx
  | reset => exact coverageInv_of_empty rfl
  | released => exact coverageInv_of_subset hs (fun _ => rfl) (List.Subset.refl _)
  | releasedInTamper =>
    exact coverageInv_of_subset (coverageInv_takeTamper hs) (fun _ => rfl) (List.Subset.refl _)
  | left outcome h =>
    obtain ⟨-, -, hcontexts, -⟩ := leaveLoading_rest outcome s
    exact coverageInv_of_empty (hcontexts.trans (hp.tables_active (by simp [h])).1)
  | failedTest h => exact coverageInv_of_empty (hnone h)
  | storeLost h =>
    refine coverageInv_of_empty ((enterActive_contexts _ _).trans ?_)
    rw [loseStore_eq]
    exact hnone h
  | searched start h => exact coverageInv_of_empty ((checkFrom_contexts _ _).trans (hnone h))
  | searchedPast p h => exact coverageInv_of_empty ((checkFrom_contexts _ _).trans (hnone h))
  | refilled =>
    exact coverageInv_of_beside (((beside_unitFreed s).trans (beside_applyRefill _ _ _ _ _)).trans
      ((beside_spentTest _ _).trans (beside_takeUpNext _))) hs
  | unwrapped =>
    exact coverageInv_of_beside (((beside_unitFreed s).trans (beside_judgeLoad _ _ _)).trans
      (beside_takeUpNext _)) hs
  | tampered => exact coverageInv_takeTamper hs
  | accepted => exact coverageInv_of_beside (beside_acceptLoad _ _ s) hs
  | erased p => exact coverageInv_of_beside (beside_eraseKey p s) hs
  | switched => exact coverageInv_of_beside (beside_switchKey _ s) hs
  | cleared => exact coverageInv_of_subset hs (clearTamper_record s) (List.Subset.refl _)

/-! ### A period of the clock (R151) -/

theorem phaseInv_counted {s : State} {n : Nat} (h : PhaseInv s) (hpast : PastLoading s)
    (hn : n < s.time.prescaler.getD Config.passOnlyPrescaler) :
    PhaseInv { s with time.count := n } := by
  obtain ⟨p, hp, hlo, hhi, -⟩ := h.time_runs hpast
  have hsetting : s.time.prescaler = some p := hp
  rw [hsetting, Option.getD_some] at hn
  exact { h with
    time_held := fun hheld => absurd hpast hheld
    time_runs := fun _ => ⟨p, hp, hlo, hhi, hn⟩ }

theorem phaseInv_takeTick {s : State} (h : PhaseInv s) (hpast : PastLoading s) :
    PhaseInv (takeTick s) := by
  rw [takeTick_eq]
  exact change_phase (c := .tick)
    (.ended _ .timeout { s.time with count := 0, ticks := s.time.ticks + 1 } hpast rfl (Nat.zero_le _))
    h

theorem phaseInv_clockPeriod {s : State} (h : PhaseInv s) : PhaseInv (clockPeriod s) := by
  obtain heq | ⟨hpast, ⟨hn, heq⟩ | heq⟩ := clockPeriod_cases s
  · rwa [heq]
  · rw [heq]
    exact phaseInv_counted h hpast hn
  · rw [heq]
    exact phaseInv_takeTick h hpast

theorem coverageInv_clockPeriod {s : State} (h : CoverageInv s) : CoverageInv (clockPeriod s) := by
  obtain heq | ⟨-, ⟨-, heq⟩ | heq⟩ := clockPeriod_cases s
  · rwa [heq]
  · rw [heq]
    exact coverageInv_of_subset h (fun _ => rfl) (List.Subset.refl _)
  · rw [heq, takeTick_eq]
    exact coverageInv_of_subset h (fun _ => rfl) fun _ hx => List.mem_of_mem_filter hx

/-- A waiting command is read by no block of the phase. -/
theorem phaseInv_pending {s : State} (h : PhaseInv s) (rest : List Instr) :
    PhaseInv { s with pending := rest } := { h with }

theorem phaseInv_of_effect {c : Instr} {s t : State} (h : Effect c s t) (hs : PhaseInv s) :
    PhaseInv t := by
  obtain ⟨u, v, ⟨hsu, -⟩, hchange, hvt⟩ := h
  exact phaseInv_of_alike hvt (change_phase hchange (phaseInv_of_alike hsu hs))

theorem coverageInv_of_effect {c : Instr} {s t : State} (h : Effect c s t) (hp : PhaseInv s)
    (hs : CoverageInv s) : CoverageInv t := by
  obtain ⟨u, v, ⟨hsu, -⟩, hchange, hvt⟩ := h
  exact coverageInv_of_beside hvt.toBeside
    (change_coverage hchange (phaseInv_of_alike hsu hp) (coverageInv_of_beside hsu.toBeside hs))

theorem phaseInv_step {s t : State} (hs : PhaseInv s) (h : step s = .next t) : PhaseInv t := by
  obtain rfl | ⟨c, rest, -, heffect⟩ := step_cases h
  · exact phaseInv_clockPeriod hs
  · exact phaseInv_of_effect heffect (phaseInv_pending hs rest)

/-- Settles O56. -/
theorem stepsKeepThePhaseAndCoverage : Obligations.StepsKeepThePhaseAndCoverage := by
  intro s t hp hc h
  refine ⟨phaseInv_step hp h, ?_⟩
  obtain rfl | ⟨c, rest, -, heffect⟩ := step_cases h
  · exact coverageInv_clockPeriod hc
  · exact coverageInv_of_effect heffect (phaseInv_pending hp rest) hc

end Sys2Proof.Machine
end

section
/-! SUPPORT. The key table in order (section 8.1), apart from the rest of the state, and each operation
on it: what it asks of the table and what it keeps. -/

namespace Sys2Proof.Machine

/-! ### The key table in order (R129 to R136) -/

/-- A key block on its way into a position keeps identifiers unique and counters in range (R136,
R180). -/
def BlockFits (xs : Vector KeyPosition 16) (p : Fin 16) (b : KeyBlock) : Prop :=
  b.keyId ≠ 0#64 ∧ b.start.toNat ≤ b.limit.toNat ∧ b.limit.toNat ≤ 1048575 ∧
    ∀ q : Fin 16, q ≠ p → xs[q].state ≠ .empty → xs[q].keyId ≠ b.keyId

/-- Counter `n` is the last one reserved and has yet to reach the pool (R131, R132). -/
structure Reserves (x : KeyPosition) (pool : List PoolEntry) (n : Nat) : Prop where
  next : x.next = n + 1
  start : x.start ≤ n
  length : pool.length < 4
  below : ∀ e ∈ pool, e.counter < n

/-- No two partners are ACTIVE (R135). -/
def OneActive (xs : Vector KeyPosition 16) : Prop :=
  ∀ p : Fin 16, xs[p].state = .active → xs[partner p].state ≠ .active

/-- A READY position's partner is ACTIVE (R135). -/
def ReadyPartners (xs : Vector KeyPosition 16) : Prop :=
  ∀ p : Fin 16, xs[p].state = .ready → xs[partner p].state = .active

/-- What every part state says of the key table, its pools and the work in flight for it. -/
structure TableFits (xs : Vector KeyPosition 16) (pools : Vector (List PoolEntry) 16)
    (d : Derivation) : Prop where
  fits : ∀ p : Fin 16, PositionFits xs[p] pools[p]
  unique : ∀ p q : Fin 16, p ≠ q → xs[p].state ≠ .empty → xs[q].state ≠ .empty →
    xs[p].keyId ≠ xs[q].keyId
  one_active : OneActive xs
  reserved : ∀ p n g k, d.inFlight = some (.refill p n g k) → InUse xs[p] →
    Reserves xs[p] pools[p] n
  load_pending : ∀ p b, d.pendingLoad = some (p, b) → BlockFits xs p b
  load_flying : ∀ p b, d.inFlight = some (.unwrap p (some b)) → BlockFits xs p b

theorem oneActive_iff (xs : Vector KeyPosition 16) :
    OneActive xs ↔
      ∀ w : Fin 8, ¬ (xs[positionA w].state = .active ∧ xs[positionB w].state = .active) := by
  constructor
  · intro h w ⟨hA, hB⟩
    refine h (positionA w) hA ?_
    simp only [(ownerWindow_positions w).2.2.1]
    exact hB
  · intro h p hp hq
    obtain ⟨w, rfl | rfl⟩ := exists_window p
    · simp only [(ownerWindow_positions w).2.2.1] at hq
      exact h w ⟨hp, hq⟩
    · simp only [(ownerWindow_positions w).2.2.2] at hq
      exact h w ⟨hq, hp⟩

theorem keyTableInv_iff (s : State) :
    KeyTableInv s ↔
      TableFits s.store.positions s.pools s.derivation ∧
        (s.part.state = .active → ReadyPartners s.store.positions) := by
  constructor
  · rintro ⟨hfits, hunique, hone, hready, hreserved, hpending, hflying⟩
    refine ⟨⟨hfits, hunique, (oneActive_iff _).2 hone, fun p n g k hf hu => ?_, hpending, hflying⟩,
      hready⟩
    obtain ⟨hnext, hstart, hlength, hbelow⟩ := hreserved p n g k hf hu
    exact ⟨hnext, hstart, hlength, hbelow⟩
  · rintro ⟨⟨hfits, hunique, hone, hreserved, hpending, hflying⟩, hready⟩
    refine ⟨hfits, hunique, (oneActive_iff _).1 hone, hready, fun p n g k hf hu => ?_, hpending,
      hflying⟩
    obtain ⟨hnext, hstart, hlength, hbelow⟩ := hreserved p n g k hf hu
    exact ⟨hnext, hstart, hlength, hbelow⟩

theorem partner_ne_self (p : Fin 16) : partner p ≠ p := (partner_facts p).1

theorem partner_partner (p : Fin 16) : partner (partner p) = p := (partner_facts p).2.1

theorem eq_partner_of_partner_eq {p q : Fin 16} (h : partner q = p) : q = partner p := by
  rw [← h, partner_partner]

/-! ### Changes that bring no identifier with them -/

section
variable {xs ys : Vector KeyPosition 16} {pools pools' : Vector (List PoolEntry) 16}
  {d d' : Derivation} {p : Fin 16}

/-- Every position that is not EMPTY had its identifier before. -/
def KeepsIds (xs ys : Vector KeyPosition 16) : Prop :=
  ∀ p : Fin 16, ys[p].state ≠ .empty → xs[p].state ≠ .empty ∧ ys[p].keyId = xs[p].keyId

theorem BlockFits.of_keepsIds {b : KeyBlock} (h : BlockFits xs p b) (hids : KeepsIds xs ys) :
    BlockFits ys p b := by
  obtain ⟨hid, hle, hmax, hfree⟩ := h
  refine ⟨hid, hle, hmax, fun q hq hne => ?_⟩
  obtain ⟨hne', hsame⟩ := hids q hne
  rw [hsame]
  exact hfree q hq hne'

theorem TableFits.of_keepsIds (h : TableFits xs pools d) (hids : KeepsIds xs ys)
    (hfits : ∀ p : Fin 16, PositionFits ys[p] pools'[p]) (hone : OneActive ys)
    (hreserved : ∀ p n g k, d.inFlight = some (.refill p n g k) → InUse ys[p] →
      Reserves ys[p] pools'[p] n) : TableFits ys pools' d where
  fits := hfits
  unique q r hqr hq hr := by
    obtain ⟨hq', hqid⟩ := hids q hq
    obtain ⟨hr', hrid⟩ := hids r hr
    rw [hqid, hrid]
    exact h.unique q r hqr hq' hr'
  one_active := hone
  reserved := hreserved
  load_pending q b hb := (h.load_pending q b hb).of_keepsIds hids
  load_flying q b hb := (h.load_flying q b hb).of_keepsIds hids

/-- One position and its pool change. -/
theorem TableFits.change_at (h : TableFits xs pools d) (hxs : ∀ q : Fin 16, q ≠ p → ys[q] = xs[q])
    (hpools : ∀ q : Fin 16, q ≠ p → pools'[q] = pools[q])
    (hid : ys[p].state ≠ .empty → xs[p].state ≠ .empty ∧ ys[p].keyId = xs[p].keyId)
    (hfits : PositionFits ys[p] pools'[p])
    (hactive : ys[p].state = .active → xs[p].state = .active ∨ xs[partner p].state ≠ .active)
    (hreserved : ∀ n g k, d.inFlight = some (.refill p n g k) → InUse ys[p] →
      Reserves ys[p] pools'[p] n) : TableFits ys pools' d := by
  have hpartner : ys[p].state = .active → xs[partner p].state ≠ .active := fun ha =>
    (hactive ha).elim (h.one_active p) id
  refine h.of_keepsIds (fun q hq => ?_) (fun q => ?_) (fun q hq => ?_) fun q n g k hf hu => ?_
  · by_cases hqp : q = p
    · subst hqp
      exact hid hq
    · rw [hxs q hqp] at hq ⊢
      exact ⟨hq, rfl⟩
  · by_cases hqp : q = p
    · subst hqp
      exact hfits
    · rw [hxs q hqp, hpools q hqp]
      exact h.fits q
  · by_cases hqp : q = p
    · subst hqp
      rw [hxs _ (partner_ne_self q)]
      exact hpartner hq
    · rw [hxs q hqp] at hq
      by_cases hqp' : partner q = p
      · obtain rfl := eq_partner_of_partner_eq hqp'
        simp only [partner_partner]
        exact fun ha => hpartner ha hq
      · rw [hxs _ hqp']
        exact h.one_active q hq
  · by_cases hqp : q = p
    · subst hqp
      exact hreserved n g k hf hu
    · rw [hxs q hqp] at hu ⊢
      rw [hpools q hqp]
      exact h.reserved q n g k hf hu

/-- The unit's work changes, to work that fits. -/
theorem TableFits.with_work (h : TableFits xs pools d)
    (hreserved : ∀ p n g k, d'.inFlight = some (.refill p n g k) → InUse xs[p] →
      Reserves xs[p] pools[p] n)
    (hpending : ∀ p b, d'.pendingLoad = some (p, b) → BlockFits xs p b)
    (hflying : ∀ p b, d'.inFlight = some (.unwrap p (some b)) → BlockFits xs p b) :
    TableFits xs pools d' :=
  ⟨h.fits, h.unique, h.one_active, hreserved, hpending, hflying⟩

/-- Work that is neither a refill nor an unwrap asks nothing of the table. -/
theorem TableFits.with_other_work (h : TableFits xs pools d) {o : Option Operation}
    (hrefill : ∀ p n g k, o ≠ some (.refill p n g k)) (hunwrap : ∀ p b, o ≠ some (.unwrap p b)) :
    TableFits xs pools { d with inFlight := o } :=
  h.with_work (fun p n g k hf => absurd hf (hrefill p n g k)) h.load_pending
    fun p _ hf => absurd hf (hunwrap p _)

/-! ### One position's fields -/

theorem positionFits_empty {x : KeyPosition} (hs : x.state = .empty) (hid : x.keyId = 0#64)
    (hkey : x.baseKey = none) (hcheck : x.check = none) (hstart : x.start = 0) (hlimit : x.limit = 0)
    (hnext : x.next = 0) : PositionFits x [] where
  empty _ := ⟨hid, hkey, hcheck, hstart, hlimit, hnext, rfl⟩
  spent h := nomatch hs.symm.trans h
  in_use h := h.elim (fun h => nomatch hs.symm.trans h) fun h => nomatch hs.symm.trans h
  counters := by omega
  pool_length := Nat.zero_le _
  pool_sorted := .nil
  pool_range := nofun

theorem positionFits_takenEmpty (x : KeyPosition) : PositionFits (takenEmpty x) [] :=
  positionFits_empty rfl rfl rfl rfl rfl rfl rfl

theorem positionFits_turnedSpent {x : KeyPosition} {pool : List PoolEntry} (h : PositionFits x pool)
    (hu : InUse x) : PositionFits (turnedSpent x) [] where
  empty := nofun
  spent _ := ⟨(h.in_use hu).1, rfl, rfl, rfl⟩
  in_use := by rintro (h | h) <;> exact nomatch h
  counters := h.counters
  pool_length := Nat.zero_le _
  pool_sorted := .nil
  pool_range := nofun

theorem positionFits_promoted {x : KeyPosition} {pool : List PoolEntry} (h : PositionFits x pool)
    (hr : x.state = .ready) : PositionFits { x with state := .active } pool :=
  ⟨nofun, nofun, fun _ => h.in_use (.inl hr), h.counters, h.pool_length, h.pool_sorted, h.pool_range⟩

theorem state_ne_empty_of_inUse {x : KeyPosition} (h : InUse x) : x.state ≠ .empty := by
  obtain h | h := h <;> rw [h] <;> exact nofun

/-- The head of the pool is drawn (R133). -/
theorem positionFits_tail {x : KeyPosition} {e : PoolEntry} {tail : List PoolEntry}
    (h : PositionFits x (e :: tail)) : PositionFits x tail where
  empty hs := by
    obtain ⟨-, -, -, -, -, -, hpool⟩ := h.empty hs
    exact nomatch hpool
  spent hs := by
    obtain ⟨-, -, -, hpool⟩ := h.spent hs
    exact nomatch hpool
  in_use := h.in_use
  counters := h.counters
  pool_length := Nat.le_of_succ_le h.pool_length
  pool_sorted := (List.pairwise_cons.1 h.pool_sorted).2
  pool_range x hx := h.pool_range x (List.mem_cons_of_mem e hx)

theorem Reserves.tail {x : KeyPosition} {e : PoolEntry} {tail : List PoolEntry} {n : Nat}
    (h : Reserves x (e :: tail) n) : Reserves x tail n :=
  ⟨h.next, h.start, Nat.lt_of_succ_lt h.length, fun x hx => h.below x (List.mem_cons_of_mem e hx)⟩

/-- The entry of the last counter reserved joins the pool (R132). -/
theorem positionFits_append {x : KeyPosition} {pool : List PoolEntry} {e : PoolEntry}
    (h : PositionFits x pool) (hu : InUse x) (hr : Reserves x pool e.counter) :
    PositionFits x (pool ++ [e]) where
  empty hs := absurd hs (state_ne_empty_of_inUse hu)
  spent hs := by obtain hu | hu := hu <;> exact nomatch hu.symm.trans hs
  in_use := h.in_use
  counters := h.counters
  pool_length := by
    rw [List.length_append]
    exact hr.length
  pool_sorted := List.pairwise_append.2
    ⟨h.pool_sorted, List.pairwise_singleton _ e, fun a ha b hb => by
      rw [List.mem_singleton.1 hb]
      exact hr.below a ha⟩
  pool_range a ha := by
    obtain ha | ha := List.mem_append.1 ha
    · exact h.pool_range a ha
    · rw [List.mem_singleton.1 ha, hr.next]
      exact ⟨hr.start, Nat.lt_succ_self _⟩

/-- The next counter is reserved (R131). -/
theorem positionFits_reserve {x : KeyPosition} {pool : List PoolEntry} (h : PositionFits x pool)
    (hu : InUse x) (hlimit : x.next ≤ x.limit) :
    PositionFits { x with next := x.next + 1 } pool where
  empty hs := absurd hs (state_ne_empty_of_inUse hu)
  spent := h.spent
  in_use := h.in_use
  counters := by
    obtain ⟨hle, hmax, -, hstart⟩ := h.counters
    exact ⟨hle, hmax, Nat.succ_le_succ hlimit, Nat.le_succ_of_le hstart⟩
  pool_length := h.pool_length
  pool_sorted := h.pool_sorted
  pool_range e he := (h.pool_range e he).imp_right fun h => h.trans (Nat.lt_succ_self _)

/-! ### The operations on the table -/

theorem TableFits.drawHead {e : PoolEntry} {tail : List PoolEntry} (h : TableFits xs pools d)
    (hpool : pools[p] = e :: tail) : TableFits xs (pools.set p tail) d := by
  have hself : (pools.set p tail)[p] = tail := (getElem_set_fin _ _ _ _).trans (if_pos rfl)
  have hfits := h.fits p
  rw [hpool] at hfits
  refine h.change_at (p := p) (fun _ _ => rfl)
    (fun q hq => (getElem_set_fin _ _ _ _).trans (if_neg hq)) (fun hne => ⟨hne, rfl⟩) ?_ .inl
    fun n g k hf hu => ?_
  · rw [hself]
    exact positionFits_tail hfits
  · have hreserves := h.reserved p n g k hf hu
    rw [hpool] at hreserves
    rw [hself]
    exact hreserves.tail

theorem TableFits.refill {e : PoolEntry} (h : TableFits xs pools d) (hidle : d.inFlight = none)
    (hu : InUse xs[p]) (hr : Reserves xs[p] pools[p] e.counter) :
    TableFits xs (pools.set p (pools[p] ++ [e])) d := by
  have hself : (pools.set p (pools[p] ++ [e]))[p] = pools[p] ++ [e] :=
    (getElem_set_fin _ _ _ _).trans (if_pos rfl)
  refine h.change_at (p := p) (fun _ _ => rfl)
    (fun q hq => (getElem_set_fin _ _ _ _).trans (if_neg hq)) (fun hne => ⟨hne, rfl⟩) ?_ .inl
    fun n g k hf => nomatch hidle.symm.trans hf
  rw [hself]
  exact positionFits_append (h.fits p) hu hr

/-- A position leaves use, or an EMPTY or SPENT one is emptied (R134, R137, R138). -/
theorem TableFits.retire {y : KeyPosition} (h : TableFits xs pools d)
    (hid : y.state ≠ .empty → xs[p].state ≠ .empty ∧ y.keyId = xs[p].keyId) (hu : ¬ InUse y)
    (hfits : PositionFits y []) (hpool : pools'[p] = [])
    (hpools : ∀ q : Fin 16, q ≠ p → pools'[q] = pools[q]) :
    TableFits (xs.set p y) pools' d := by
  have hself : (xs.set p y)[p] = y := (getElem_set_fin _ _ _ _).trans (if_pos rfl)
  refine h.change_at (p := p) (fun q hq => (getElem_set_fin _ _ _ _).trans (if_neg hq)) hpools ?_ ?_
    ?_ ?_ <;> rw [hself]
  · exact hid
  · rw [hpool]
    exact hfits
  · exact fun ha => absurd (.inr ha) hu
  · exact fun _ _ _ _ h => absurd h hu

/-- A READY position whose partner is not ACTIVE becomes ACTIVE (R135). -/
theorem TableFits.promote (h : TableFits xs pools d) (hr : xs[p].state = .ready)
    (hpartner : xs[partner p].state ≠ .active) :
    TableFits (xs.set p { xs[p] with state := .active }) pools d := by
  have hself : (xs.set p { xs[p] with state := .active })[p] = { xs[p] with state := .active } :=
    (getElem_set_fin _ _ _ _).trans (if_pos rfl)
  refine h.change_at (p := p) (fun q hq => (getElem_set_fin _ _ _ _).trans (if_neg hq))
    (fun _ _ => rfl) ?_ ?_ ?_ ?_ <;> rw [hself]
  · exact fun _ => ⟨state_ne_empty_of_inUse (.inl hr), rfl⟩
  · exact positionFits_promoted (h.fits p) hr
  · exact fun _ => .inr hpartner
  · intro n g k hf _
    obtain ⟨hnext, hstart, hlength, hbelow⟩ := h.reserved p n g k hf (.inl hr)
    exact ⟨hnext, hstart, hlength, hbelow⟩

/-- The next counter of a position in use is reserved for the refill taken up (R131, R142). -/
theorem TableFits.reserve {g : BitVec 32} {key : Option (Block × KeyId)} {pointer : Fin 16}
    (h : TableFits xs pools d) (hidle : d.inFlight = none) (hu : InUse xs[p])
    (hlength : pools[p].length < 4) (hlimit : xs[p].next ≤ xs[p].limit) :
    TableFits (xs.set p { xs[p] with next := xs[p].next + 1 }) pools
      { d with inFlight := some (.refill p xs[p].next g key), pointer := pointer } := by
  have hself : (xs.set p { xs[p] with next := xs[p].next + 1 })[p] =
      { xs[p] with next := xs[p].next + 1 } := (getElem_set_fin _ _ _ _).trans (if_pos rfl)
  have hraised : TableFits (xs.set p { xs[p] with next := xs[p].next + 1 }) pools d := by
    refine h.change_at (p := p) (fun q hq => (getElem_set_fin _ _ _ _).trans (if_neg hq))
      (fun _ _ => rfl) ?_ ?_ ?_ (fun n g k hf => nomatch hidle.symm.trans hf) <;> rw [hself]
    · exact fun hne => ⟨hne, rfl⟩
    · exact positionFits_reserve (h.fits p) hu hlimit
    · exact .inl
  refine hraised.with_work (fun q n g k hf _ => ?_) hraised.load_pending fun q b hf => nomatch hf
  cases hf
  rw [hself]
  exact ⟨rfl, (h.fits p).counters.2.2.2, hlength, fun e he => ((h.fits p).pool_range e he).2⟩

/-- A position holds the key of a block that fits; no other load is on its way (R136). -/
theorem TableFits.load {y : KeyPosition} {b : KeyBlock} (h : TableFits xs pools d)
    (hidle : d.inFlight = none) (hpending : d.pendingLoad = none) (hb : BlockFits xs p b)
    (hid : y.keyId = b.keyId) (hfits : PositionFits y [])
    (hactive : y.state = .active → xs[partner p].state ≠ .active) :
    TableFits (xs.set p y) (pools.set p []) d := by
  obtain ⟨-, -, -, hfree⟩ := hb
  have hself : (xs.set p y)[p] = y := (getElem_set_fin _ _ _ _).trans (if_pos rfl)
  have hother : ∀ q : Fin 16, q ≠ p → (xs.set p y)[q] = xs[q] :=
    fun q hq => (getElem_set_fin _ _ _ _).trans (if_neg hq)
  refine ⟨fun q => ?_, fun q r hqr hq hr => ?_, fun q hq => ?_,
    fun q n g k hf => absurd (hidle.symm.trans hf) nofun,
    fun q c hc => absurd (hpending.symm.trans hc) nofun,
    fun q c hc => absurd (hidle.symm.trans hc) nofun⟩
  · rw [getElem_set_fin, getElem_set_fin]
    split
    · exact hfits
    · exact h.fits q
  · by_cases hqp : q = p
    · subst hqp
      rw [hself, hid, hother r hqr.symm]
      rw [hother r hqr.symm] at hr
      exact (hfree r hqr.symm hr).symm
    · rw [hother q hqp] at hq ⊢
      by_cases hrp : r = p
      · subst hrp
        rw [hself, hid]
        exact hfree q hqp hq
      · rw [hother r hrp] at hr ⊢
        exact h.unique q r hqr hq hr
  · by_cases hqp : q = p
    · subst hqp
      rw [hself] at hq
      rw [hother _ (partner_ne_self q)]
      exact hactive hq
    · rw [hother q hqp] at hq
      by_cases hqp' : partner q = p
      · obtain rfl := eq_partner_of_partner_eq hqp'
        simp only [partner_partner]
        rw [hself]
        exact fun ha => hactive ha hq
      · rw [hother _ hqp']
        exact h.one_active q hq

/-! ### A position leaves ACTIVE, and its partner follows (R135) -/

/-- A position takes new contents; when it was ACTIVE, rollover follows. -/
def leaveUse (p : Fin 16) (y : KeyPosition) (xs : Vector KeyPosition 16) : Vector KeyPosition 16 :=
  if xs[p].state = .active then promoted p (xs.set p y) else xs.set p y

theorem TableFits.leaveUse {y : KeyPosition} (h : TableFits xs pools d)
    (hid : y.state ≠ .empty → xs[p].state ≠ .empty ∧ y.keyId = xs[p].keyId) (hu : ¬ InUse y)
    (hfits : PositionFits y []) (hpool : pools'[p] = [])
    (hpools : ∀ q : Fin 16, q ≠ p → pools'[q] = pools[q]) :
    TableFits (leaveUse p y xs) pools' d := by
  have hretired := h.retire hid hu hfits hpool hpools
  have hself : (xs.set p y)[p] = y := (getElem_set_fin _ _ _ _).trans (if_pos rfl)
  rw [Machine.leaveUse, promoted]
  split
  · split
    · next hr =>
      refine hretired.promote hr ?_
      simp only [partner_partner]
      rw [hself]
      exact fun ha => hu (.inr ha)
    · exact hretired
  · exact hretired

/-- Where a READY position has an ACTIVE partner, the partner of a position that was not ACTIVE is not
READY, and that of one that was becomes ACTIVE. -/
theorem ReadyPartners.leaveUse {y : KeyPosition} (h : ReadyPartners xs) (hu : ¬ InUse y) :
    ReadyPartners (leaveUse p y xs) := by
  have hself : (xs.set p y)[p] = y := (getElem_set_fin _ _ _ _).trans (if_pos rfl)
  have hother : ∀ q : Fin 16, q ≠ p → (xs.set p y)[q] = xs[q] :=
    fun q hq => (getElem_set_fin _ _ _ _).trans (if_neg hq)
  have hretired : xs[partner p].state ≠ .ready → ReadyPartners (xs.set p y) := by
    intro hnot q hq
    by_cases hqp : q = p
    · subst hqp
      rw [hself] at hq
      exact absurd (.inl hq) hu
    · rw [hother q hqp] at hq
      rw [hother]
      · exact h q hq
      · intro hqp'
        obtain rfl := eq_partner_of_partner_eq hqp'
        exact hnot hq
  rw [Machine.leaveUse, promoted, getElem_set_partner]
  split
  · split
    · intro q hq
      rw [getElem_set_fin] at hq
      split at hq
      · exact nomatch hq
      next hqp' =>
      by_cases hqp : q = p
      · subst hqp
        rw [hself] at hq
        exact absurd (.inl hq) hu
      · rw [hother q hqp] at hq
        rw [getElem_set_fin]
        split
        · rfl
        · rw [hother]
          · exact h q hq
          · exact fun heq => hqp' (eq_partner_of_partner_eq heq)
    · next hr => exact hretired hr
  · next ha =>
    refine hretired fun hr => ha ?_
    have := h _ hr
    simp only [partner_partner] at this
    exact this

end

end Sys2Proof.Machine
end

section
/-! SUPPORT. The key table through the derivation unit's work, the key commands, tamper and the end of
SELF-TEST (sections 8 and 10). -/

namespace Sys2Proof.Machine

/-- The state's key table, pools and work in flight fit together. -/
abbrev TableInOrder (s : State) : Prop := TableFits s.store.positions s.pools s.derivation

theorem keyTableInv_of_same {s t : State} (h : KeyTableInv s) (hstate : t.part.state = s.part.state)
    (hpositions : t.store.positions = s.store.positions) (hpools : t.pools = s.pools)
    (hunit : t.derivation = s.derivation) : KeyTableInv t := by
  rw [keyTableInv_iff] at h ⊢
  rw [hstate, hpositions, hpools, hunit]
  exact h

theorem keyTableInv_of_alike {s t : State} (h : Alike s t) (hs : KeyTableInv s) : KeyTableInv t :=
  keyTableInv_of_same hs h.state h.positions h.pools h.derivation

/-- Outside ACTIVE a READY position's partner may be anything. -/
theorem keyTableInv_of_not_active {s : State} (h : TableInOrder s) (hs : s.part.state ≠ .active) :
    KeyTableInv s :=
  (keyTableInv_iff s).2 ⟨h, fun ha => absurd ha hs⟩

theorem tableInOrder_of_keys {s : State} (h : KeyTableInv s) : TableInOrder s :=
  ((keyTableInv_iff s).1 h).1

/-! ### The unit ends its operation and looks for the next -/

theorem tableInOrder_unitFreed {s : State} (h : TableInOrder s) : TableInOrder (unitFreed s) :=
  h.with_other_work nofun nofun

theorem keyTableInv_unitFreed {s : State} (h : KeyTableInv s) : KeyTableInv (unitFreed s) := by
  obtain ⟨htable, hready⟩ := (keyTableInv_iff s).1 h
  exact (keyTableInv_iff _).2 ⟨tableInOrder_unitFreed htable, hready⟩

theorem tableInOrder_takeUpNext {s : State} (h : TableInOrder s) : TableInOrder (takeUpNext s) := by
  obtain heq | ⟨p, b, -, hidle, hpending, heq⟩ | ⟨p, -, hidle, -, hneeds, heq⟩ :=
    takeUpNext_cases s <;> rw [heq]
  · exact h
  · refine h.with_work nofun nofun fun q c hf => ?_
    cases hf
    exact h.load_pending p b hpending
  · obtain ⟨hu, -, hlength, hlimit, -⟩ := hneeds
    exact h.reserve hidle hu hlength hlimit

theorem takeUpNext_keyState (s : State) (q : Fin 16) :
    (takeUpNext s).store.positions[q].state = s.store.positions[q].state := by
  obtain heq | ⟨p, b, -, -, -, heq⟩ | ⟨p, -, -, -, -, heq⟩ := takeUpNext_cases s <;> rw [heq]
  rw [takeUpRefill_eq, getElem_set_fin]
  split
  · next hq => rw [hq]
  · rfl

theorem readyPartners_of_states {xs ys : Vector KeyPosition 16} (h : ReadyPartners xs)
    (hstates : ∀ q : Fin 16, ys[q].state = xs[q].state) : ReadyPartners ys := by
  intro q hq
  rw [hstates] at hq ⊢
  exact h q hq

theorem keyTableInv_takeUpNext {s : State} (h : KeyTableInv s) : KeyTableInv (takeUpNext s) := by
  obtain ⟨htable, hready⟩ := (keyTableInv_iff s).1 h
  refine (keyTableInv_iff _).2 ⟨tableInOrder_takeUpNext htable, fun hs => ?_⟩
  rw [(beside_takeUpNext s).state] at hs
  exact readyPartners_of_states (hready hs) (takeUpNext_keyState s)

/-! ### The SPENT test (R134) -/

theorem usedUp_facts {s : State} {p : Fin 16} (h : usedUp s p = true) :
    InUse s.store.positions[p] ∧ s.pools[p] = [] := by
  simp only [usedUp, Bool.and_eq_true] at h
  obtain ⟨⟨⟨hkey, -⟩, hpool⟩, -⟩ := h
  exact ⟨(holdsKey_iff _).1 hkey, List.isEmpty_iff.1 hpool⟩

theorem not_inUse_turnedSpent (x : KeyPosition) : ¬ InUse (turnedSpent x) := by
  rintro (h | h) <;> exact nomatch h

theorem not_inUse_takenEmpty (x : KeyPosition) : ¬ InUse (takenEmpty x) := by
  rintro (h | h) <;> exact nomatch h

theorem tableInOrder_spentTest {s : State} (p : Fin 16) (h : TableInOrder s) :
    TableInOrder (spentTest p s) := by
  rw [spentTest_eq]
  split
  · next hused =>
    obtain ⟨hu, hpool⟩ := usedUp_facts hused
    exact h.leaveUse (fun _ => ⟨state_ne_empty_of_inUse hu, rfl⟩) (not_inUse_turnedSpent _)
      (positionFits_turnedSpent (h.fits p) hu) hpool fun _ _ => rfl
  · exact h

theorem keyTableInv_spentTest {s : State} (p : Fin 16) (h : KeyTableInv s) :
    KeyTableInv (spentTest p s) := by
  obtain ⟨htable, hready⟩ := (keyTableInv_iff s).1 h
  refine (keyTableInv_iff _).2 ⟨tableInOrder_spentTest p htable, fun hs => ?_⟩
  rw [(beside_spentTest p s).state] at hs
  rw [spentTest_eq]
  split
  · exact (hready hs).leaveUse (not_inUse_turnedSpent _)
  · exact hready hs

/-! ### Completions and openings (R132, R133, R136) -/

theorem keyTableInv_headDrawn {s : State} {p : Fin 16} {e : PoolEntry} {tail : List PoolEntry}
    (pl : Placement) (c : Context) (low : Bool) (h : KeyTableInv s) (hpool : s.pools[p] = e :: tail) :
    KeyTableInv (headDrawn s pl p tail c low) := by
  obtain ⟨htable, hready⟩ := (keyTableInv_iff s).1 h
  exact (keyTableInv_iff _).2 ⟨htable.drawHead hpool, hready⟩

theorem keyTableInv_applyRefill {s : State} {p : Fin 16} {n : Nat} {g : BitVec 32}
    {key : Option (Block × KeyId)} (h : KeyTableInv s)
    (hf : s.derivation.inFlight = some (.refill p n g key)) :
    KeyTableInv (applyRefill p n g key (unitFreed s)) := by
  obtain ⟨htable, hready⟩ := (keyTableInv_iff _).1 (keyTableInv_unitFreed h)
  by_cases hacc : ∃ k i, key = some (k, i) ∧ s.store.positions[p].generation = g ∧
      InUse s.store.positions[p]
  · obtain ⟨k, i, rfl, hg, hu⟩ := hacc
    rw [applyRefill_accepted (s := unitFreed s) hg hu]
    exact (keyTableInv_iff _).2
      ⟨htable.refill rfl hu ((tableInOrder_of_keys h).reserved p n g _ hf hu), hready⟩
  · rw [applyRefill_discarded (s := unitFreed s)]
    · exact keyTableInv_unitFreed h
    · obtain _ | ⟨k, i⟩ := key
      · exact .inl rfl
      · rw [← not_and_or]
        exact .inr fun hg => hacc ⟨k, i, rfl, hg⟩

/-- What a loaded position holds (R136). -/
theorem positionFits_loaded {xs : Vector KeyPosition 16} {p : Fin 16} {b : KeyBlock}
    {state : KeyState} (h : BlockFits xs p b) (hu : state = .ready ∨ state = .active) (key : Block)
    (g : BitVec 32) :
    PositionFits
      { state := state, keyId := b.keyId, baseKey := some key, check := some b.check
        start := b.start.toNat, limit := b.limit.toNat, next := b.start.toNat, generation := g }
      [] := by
  obtain ⟨hid, hle, hmax, -⟩ := h
  refine ⟨fun hs => ?_, fun hs => ?_, fun _ => ⟨hid, nofun, nofun⟩,
    ⟨hle, hmax, Nat.le_succ_of_le hle, Nat.le_refl _⟩, Nat.zero_le _, .nil, nofun⟩
  · obtain h | h := hu <;> exact nomatch h.symm.trans hs
  · obtain h | h := hu <;> exact nomatch h.symm.trans hs

theorem keyTableInv_loadPosition {s : State} {p : Fin 16} {b : KeyBlock} (key : Block)
    (h : KeyTableInv s) (hs : s.part.state = .active) (hidle : s.derivation.inFlight = none)
    (hpending : s.derivation.pendingLoad = none) (hb : BlockFits s.store.positions p b)
    (ha : s.store.positions[p].state ≠ .active) : KeyTableInv (loadPosition p b key s) := by
  obtain ⟨htable, hready⟩ := (keyTableInv_iff s).1 h
  have hpartner : s.store.positions[partner p].state ≠ .ready := fun hr => ha (by
    have := hready hs _ hr
    simp only [partner_partner] at this
    exact this)
  rw [loadPosition_eq b key ha]
  refine (keyTableInv_iff _).2 ⟨htable.load hidle hpending hb rfl (positionFits_loaded hb ?_ key _) ?_,
    fun _ q hq => ?_⟩
  · split
    · exact .inl rfl
    · exact .inr rfl
  · intro hactive
    dsimp only at hactive
    split at hactive
    · exact nomatch hactive
    · assumption
  · dsimp only at hq ⊢
    rw [getElem_set_fin] at hq
    split at hq
    · next hqp =>
      subst hqp
      rw [getElem_set_fin, if_neg (partner_ne_self q)]
      dsimp only at hq
      split at hq
      · assumption
      · exact nomatch hq
    · next hqp =>
      have hpartner' : partner q ≠ p := fun heq => by
        obtain rfl := eq_partner_of_partner_eq heq
        exact hpartner hq
      rw [getElem_set_fin, if_neg hpartner']
      exact hready hs q hq

theorem keyTableInv_answerLoad {s : State} (code : AnswerCode) (h : KeyTableInv s) :
    KeyTableInv (answerLoad code s) := keyTableInv_of_same h rfl rfl rfl rfl

theorem keyTableInv_judgeLoad {s : State} {p : Fin 16} {block : Option KeyBlock}
    (h : KeyTableInv s) (hp : PhaseInv s) (hf : s.derivation.inFlight = some (.unwrap p block)) :
    KeyTableInv (judgeLoad p block (unitFreed s)) := by
  have hfreed := keyTableInv_unitFreed h
  obtain _ | b := block
  · exact keyTableInv_answerLoad _ hfreed
  rw [judgeLoad_eq]
  split
  · exact keyTableInv_answerLoad _ hfreed
  split
  · exact keyTableInv_answerLoad _ hfreed
  next ha =>
  exact keyTableInv_answerLoad _ (keyTableInv_loadPosition _ hfreed
    (active_of_inFlight (s := s) hp hf nofun nofun) rfl (pendingLoad_of_unwrap (s := s) hp hf)
    (h.load_flying p b hf) ha)

/-! ### The key commands (R136, R137, R138) -/

theorem keyTableInv_acceptLoad {s : State} {p : Fin 16} {b : KeyBlock} (h : KeyTableInv s)
    (hb : LoadFits s p b) : KeyTableInv (acceptLoad p b s) := by
  obtain ⟨htable, hready⟩ := (keyTableInv_iff s).1 h
  refine keyTableInv_takeUpNext ((keyTableInv_iff _).2
    ⟨htable.with_work htable.reserved (fun q c hc => ?_) htable.load_flying, hready⟩)
  cases hc
  exact hb

/-- A position leaves use with its pool, and rollover follows when it was ACTIVE. -/
theorem keyTableInv_leaveUse {s t : State} {p : Fin 16} {y : KeyPosition} (h : KeyTableInv s)
    (hid : y.state ≠ .empty →
      s.store.positions[p].state ≠ .empty ∧ y.keyId = s.store.positions[p].keyId)
    (hu : ¬ InUse y) (hfits : PositionFits y []) (hstate : t.part.state = s.part.state)
    (hpositions : t.store.positions = leaveUse p y s.store.positions)
    (hpools : t.pools = s.pools.set p []) (hunit : t.derivation = s.derivation) :
    KeyTableInv t := by
  obtain ⟨htable, hready⟩ := (keyTableInv_iff s).1 h
  rw [keyTableInv_iff, hpositions, hpools, hunit, hstate]
  refine ⟨htable.leaveUse hid hu hfits ?_ fun q hq => ?_, fun hs => (hready hs).leaveUse hu⟩
  · rw [getElem_set_fin, if_pos rfl]
  · rw [getElem_set_fin, if_neg hq]

theorem keyTableInv_eraseKey {s : State} (p : Fin 16) (h : KeyTableInv s) :
    KeyTableInv (eraseKey p s) := by
  rw [eraseKey_eq]
  refine keyTableInv_takeUpNext (keyTableInv_leaveUse (p := p) h (y := takenEmpty s.store.positions[p])
    (fun hne => absurd rfl hne) (not_inUse_takenEmpty _) (positionFits_takenEmpty _) ?_ ?_ ?_ ?_)
  all_goals rfl

theorem keyTableInv_switchKey {s : State} {p : Fin 16} (h : KeyTableInv s)
    (ha : s.store.positions[p].state = .active) : KeyTableInv (switchKey p s) := by
  have hu : InUse s.store.positions[p] := .inr ha
  rw [switchKey, rollover_setPool_setPosition]
  refine keyTableInv_takeUpNext (keyTableInv_leaveUse (p := p) h (y := turnedSpent s.store.positions[p])
    (fun _ => ⟨state_ne_empty_of_inUse hu, rfl⟩) (not_inUse_turnedSpent _)
    (positionFits_turnedSpent (h.fits p) hu) rfl ?_ rfl rfl)
  rw [leaveUse, if_pos ha]
  rfl

/-! ### The end of SELF-TEST (R147) -/

theorem tableInOrder_erasePosition {s : State} (p : Fin 16) (h : TableInOrder s) :
    TableInOrder (erasePosition p s) := by
  refine TableFits.retire h (y := takenEmpty s.store.positions[p]) (fun hne => absurd rfl hne)
    (not_inUse_takenEmpty _) (positionFits_takenEmpty _) ?_ fun q hq => ?_
  · exact (getElem_set_fin _ _ _ _).trans (if_pos rfl)
  · exact (getElem_set_fin _ _ _ _).trans (if_neg hq)

theorem readyPosition_cases (s : State) (w : Fin 8) :
    (∃ p, readyPosition s w = some p ∧ ownerWindow p = w ∧ s.store.positions[p].state = .ready) ∨
      (readyPosition s w = none ∧
        ∀ q : Fin 16, ownerWindow q = w → s.store.positions[q].state ≠ .ready) := by
  obtain ⟨hA, hB, -, -⟩ := ownerWindow_positions w
  unfold readyPosition
  split
  · next h => exact .inl ⟨_, rfl, hA, h⟩
  next hnA =>
  split
  · next h => exact .inl ⟨_, rfl, hB, h⟩
  next hnB =>
  refine .inr ⟨rfl, fun q hq => ?_⟩
  obtain rfl | rfl := eq_positionA_or_positionB hq
  · exact hnA
  · exact hnB

/-- What settling a window can do: it has an ACTIVE position or no READY one, and no position changes; or
its READY position becomes ACTIVE (R147 step 4). -/
theorem settleWindow_cases (s : State) (w : Fin 8) :
    (Alike s (settleWindow s w) ∧
        ((∃ q, ownerWindow q = w ∧ s.store.positions[q].state = .active) ∨
          ∀ q : Fin 16, ownerWindow q = w → s.store.positions[q].state ≠ .ready)) ∨
      ∃ p, ownerWindow p = w ∧ s.store.positions[p].state = .ready ∧
        s.store.positions[partner p].state ≠ .active ∧
        settleWindow s w = setPosition p { s.store.positions[p] with state := .active } s := by
  unfold settleWindow
  obtain ⟨q, hq, hown, hactive⟩ | ⟨hnone, -⟩ := activePosition_cases s w
  · simp only [hq]
    exact .inl ⟨Alike.refl s, .inl ⟨q, hown, hactive⟩⟩
  obtain ⟨p, hp, hown, hready⟩ | ⟨hnoReady, hall⟩ := readyPosition_cases s w
  · simp only [hnone, hp]
    refine .inr ⟨p, hown, hready, ?_, rfl⟩
    exact (activePosition_eq_none_iff s w).1 hnone _ ((partner_facts p).2.2.trans hown)
  · simp only [hnone, hnoReady]
    exact .inl ⟨alike_raiseNoticeWhen _ _ s, .inr hall⟩

/-- A READY position of the window has an ACTIVE partner (R135). -/
def WindowSettled (s : State) (w : Fin 8) : Prop :=
  ∀ p : Fin 16, ownerWindow p = w → s.store.positions[p].state = .ready →
    s.store.positions[partner p].state = .active

theorem tableInOrder_settleWindow {s : State} (w : Fin 8) (h : TableInOrder s) :
    TableInOrder (settleWindow s w) := by
  obtain ⟨halike, -⟩ | ⟨p, -, hready, hpartner, heq⟩ := settleWindow_cases s w
  · rw [TableInOrder, halike.positions, halike.pools, halike.derivation]
    exact h
  · rw [heq]
    exact h.promote hready hpartner

theorem windowSettled_settleWindow (s : State) (w : Fin 8) : WindowSettled (settleWindow s w) w := by
  intro r hr hready
  obtain ⟨halike, hcases⟩ | ⟨p, hown, -, -, heq⟩ := settleWindow_cases s w
  · rw [halike.positions] at hready ⊢
    obtain ⟨q, hq, hactive⟩ | hnone := hcases
    · obtain rfl | rfl := eq_or_eq_partner (hq.trans hr.symm)
      · exact nomatch hready.symm.trans hactive
      · exact hactive
    · exact absurd hready (hnone r hr)
  · rw [heq, setPosition] at hready ⊢
    dsimp only at hready ⊢
    rw [getElem_set_fin] at hready
    split at hready
    · exact nomatch hready
    next hne =>
    obtain rfl | rfl := eq_or_eq_partner (hr.trans hown.symm)
    · exact absurd rfl hne
    · simp only [partner_partner]
      rw [getElem_set_fin, if_pos rfl]

theorem windowSettled_settleWindow_other {s : State} {v w : Fin 8} (hvw : w ≠ v)
    (h : WindowSettled s w) : WindowSettled (settleWindow s v) w := by
  intro r hr hready
  obtain ⟨halike, -⟩ | ⟨p, hown, -, -, heq⟩ := settleWindow_cases s v
  · rw [halike.positions] at hready ⊢
    exact h r hr hready
  · have hother : ∀ q : Fin 16, ownerWindow q = w →
        (settleWindow s v).store.positions[q] = s.store.positions[q] := by
      intro q hq
      rw [heq]
      exact (getElem_set_fin _ _ _ _).trans (if_neg fun hqp => hvw (by rw [← hq, hqp, hown]))
    rw [hother r hr] at hready
    rw [hother _ ((partner_facts r).2.2.trans hr)]
    exact h r hr hready

theorem windowSettled_foldl (l : List (Fin 8)) (s : State) {w : Fin 8}
    (h : w ∈ l ∨ WindowSettled s w) : WindowSettled (l.foldl settleWindow s) w := by
  induction l generalizing s with
  | nil => exact h.resolve_left List.not_mem_nil
  | cons v l ih =>
    refine ih _ ?_
    by_cases hwv : w = v
    · subst hwv
      exact .inr (windowSettled_settleWindow s w)
    · obtain h | h := h
      · exact .inl (List.mem_of_ne_of_mem hwv h)
      · exact .inr (windowSettled_settleWindow_other hwv h)

theorem foldl_keeps {α : Type} {P : State → Prop} {f : State → α → State}
    (h : ∀ s x, P s → P (f s x)) (l : List α) {s : State} (hs : P s) : P (l.foldl f s) := by
  induction l generalizing s with
  | nil => exact hs
  | cons x l ih => exact ih (h s x hs)

theorem tableInOrder_settledAll {s : State} (h : TableInOrder s) :
    TableInOrder (settledAll s) := by
  rw [settledAll]
  refine foldl_keeps (P := TableInOrder) (fun _ w => tableInOrder_settleWindow w) _ ?_
  rw [spentTestAll]
  exact foldl_keeps (P := TableInOrder) (fun _ p => tableInOrder_spentTest p) _ h

theorem readyPartners_of_settled {s : State} (h : ∀ w, WindowSettled s w) :
    ReadyPartners s.store.positions := fun p => h (ownerWindow p) p rfl

theorem readyPartners_settledAll (s : State) :
    ReadyPartners (settledAll s).store.positions := by
  rw [settledAll]
  exact readyPartners_of_settled fun w => windowSettled_foldl _ _ (.inl (List.mem_finRange w))

theorem keyTableInv_activeBegun {s : State} (outcome : StoreOutcome) (h : TableInOrder s)
    (hready : ReadyPartners s.store.positions) : KeyTableInv (activeBegun outcome s) :=
  (keyTableInv_iff _).2 ⟨h, fun _ => hready⟩

theorem keyTableInv_enterActive {s : State} (outcome : StoreOutcome) (h : TableInOrder s) :
    KeyTableInv (enterActive outcome s) := by
  rw [enterActive_eq_takeUpNext]
  exact keyTableInv_takeUpNext (keyTableInv_activeBegun outcome (tableInOrder_settledAll h)
    (readyPartners_settledAll s))

theorem keyTableInv_checkFrom {s : State} (start : Nat) (hs : s.part.state = .selfTest)
    (h : TableInOrder s) : KeyTableInv (checkFrom start s) := by
  obtain ⟨p, key, heq⟩ | ⟨outcome, heq⟩ := checkFrom_cases start s <;> rw [heq]
  · exact keyTableInv_of_not_active (h.with_other_work nofun nofun) (by simp [hs])
  · exact keyTableInv_enterActive outcome h

/-! ### A table without keys (R149, R160) -/

/-- Every position is EMPTY, and no pool and no key load stands. -/
structure KeysGone (s : State) : Prop where
  positions : ∀ p : Fin 16, s.store.positions[p].state = .empty
  pools : ∀ p : Fin 16, s.pools[p] = []
  pending : s.derivation.pendingLoad = none
  unwrap : ∀ p b, s.derivation.inFlight = some (.unwrap p b) → b = none

theorem not_inUse_of_empty {x : KeyPosition} (h : x.state = .empty) : ¬ InUse x := by
  rintro (h' | h') <;> exact nomatch h.symm.trans h'

theorem KeysGone.table {s : State} (h : KeysGone s)
    (hfits : ∀ p : Fin 16, PositionFits s.store.positions[p] []) : TableInOrder s where
  fits p := by
    rw [h.pools p]
    exact hfits p
  unique p _ _ hp := absurd (h.positions p) hp
  one_active p hp := nomatch (h.positions p).symm.trans hp
  reserved p _ _ _ _ hu := absurd hu (not_inUse_of_empty (h.positions p))
  load_pending p b hb := nomatch h.pending.symm.trans hb
  load_flying p b hb := nomatch h.unwrap p _ hb

theorem unwrap_void (o : Option Operation) (p : Fin 16) (b : Option KeyBlock)
    (h : o.map voidOperation = some (.unwrap p b)) : b = none := by
  obtain ⟨x, -, hx⟩ := Option.map_eq_some_iff.1 h
  cases x with
  | unwrap q c =>
    cases hx
    rfl
  | _ => exact nomatch hx

theorem takeTamper_clear_positions {s : State} (h : s.store.latch = false) (p : Fin 16) :
    (takeTamper s).store.positions[p] = takenEmpty s.store.positions[p] := by
  rw [takeTamper_clear h]
  exact ofFn_getElem_fin _ p

theorem keysGone_takeTamper {s : State} (h : s.store.latch = false) : KeysGone (takeTamper s) := by
  have hunit : (takeTamper s).derivation = (tampered s).derivation := by rw [takeTamper_clear h]
  rw [tampered_derivation] at hunit
  refine ⟨fun p => ?_, fun p => ?_, by rw [hunit], fun p b hf => ?_⟩
  · rw [takeTamper_clear_positions h]
    rfl
  · rw [takeTamper_clear h]
    exact replicate_getElem_fin [] p
  · rw [hunit] at hf
    exact unwrap_void _ p b hf

theorem keyTableInv_takeTamper {s : State} (h : KeyTableInv s) : KeyTableInv (takeTamper s) := by
  cases hl : s.store.latch with
  | true => exact keyTableInv_of_alike (alike_takeTamper_latched hl) h
  | false =>
    refine (keyTableInv_iff _).2 ⟨(keysGone_takeTamper hl).table fun p => ?_, fun _ p hp => ?_⟩
    · rw [takeTamper_clear_positions hl]
      exact positionFits_takenEmpty _
    · rw [takeTamper_clear_positions hl] at hp
      exact nomatch hp

theorem loseStore_positions (s : State) (p : Fin 16) :
    (loseStore s).store.positions[p] = Config.blankPosition := by
  rw [loseStore_eq]
  exact replicate_getElem_fin _ p

theorem keysGone_loseStore {s : State} (hidle : s.derivation.inFlight = none)
    (hpending : s.derivation.pendingLoad = none) : KeysGone (loseStore s) := by
  have hunit : (loseStore s).derivation = s.derivation := by rw [loseStore_eq]
  refine ⟨fun p => ?_, fun p => ?_, by rw [hunit, hpending], fun p b hf => ?_⟩
  · rw [loseStore_positions]
    rfl
  · rw [loseStore_eq]
    exact replicate_getElem_fin [] p
  · rw [hunit, hidle] at hf
    exact nomatch hf

theorem tableInOrder_loseStore {s : State} (hidle : s.derivation.inFlight = none)
    (hpending : s.derivation.pendingLoad = none) : TableInOrder (loseStore s) :=
  (keysGone_loseStore hidle hpending).table fun p => by
    rw [loseStore_positions]
    exact positionFits_empty rfl rfl rfl rfl rfl rfl rfl

/-! ### Part reset and LOADING (R158, R171) -/

theorem positionFits_nil {x : KeyPosition} {pool : List PoolEntry} (h : PositionFits x pool) :
    PositionFits x [] where
  empty hs := by
    obtain ⟨hid, hkey, hcheck, hstart, hlimit, hnext, -⟩ := h.empty hs
    exact ⟨hid, hkey, hcheck, hstart, hlimit, hnext, rfl⟩
  spent hs := by
    obtain ⟨hid, hkey, hcheck, -⟩ := h.spent hs
    exact ⟨hid, hkey, hcheck, rfl⟩
  in_use := h.in_use
  counters := h.counters
  pool_length := Nat.zero_le _
  pool_sorted := .nil
  pool_range := nofun

/-- Part reset drops the pools and the work; the positions stand. -/
theorem TableFits.reset {xs : Vector KeyPosition 16} {pools : Vector (List PoolEntry) 16}
    {d : Derivation} (h : TableFits xs pools d) :
    TableFits xs State.reset.pools State.reset.derivation := by
  have hpools : ∀ p : Fin 16, State.reset.pools[p] = [] := fun p => replicate_getElem_fin [] p
  refine ⟨fun p => ?_, h.unique, h.one_active, nofun, nofun, nofun⟩
  rw [hpools]
  exact positionFits_nil (h.fits p)

theorem tableInOrder_leaveLoading {s : State} (outcome : ImageOutcome) (h : TableInOrder s) :
    TableInOrder (leaveLoading outcome s) := by
  rw [leaveLoading]
  split
  · exact h.with_other_work nofun nofun
  · exact h

theorem leaveLoading_not_active (outcome : ImageOutcome) (s : State) :
    (leaveLoading outcome s).part.state ≠ .active := by
  rw [leaveLoading]
  split <;> exact nofun

end Sys2Proof.Machine
end

section
/-! SUPPORT. Every step that puts no other store under the marker keeps the key table and what the tamper
latch means (sections 8.1 and 10.4). -/

namespace Sys2Proof.Machine

/-! ### What the latch means (R149, R162) -/

theorem latchHolds_iff (s : State) :
    LatchHolds s ↔
      KeysGone s ∧ s.contexts = [] ∧
        ∀ w : Fin 8, Enabled s w → s.windows[w].freeze.tamper = true :=
  ⟨fun ⟨h1, h2, h3, h4, h5, h6⟩ => ⟨⟨h1, h2, h5, h6⟩, h3, h4⟩,
    fun ⟨⟨h1, h2, h5, h6⟩, h3, h4⟩ => ⟨h1, h2, h3, h4, h5, h6⟩⟩

theorem keysGone_of_latch {s : State} (h : LatchHolds s) : KeysGone s := ((latchHolds_iff s).1 h).1

theorem latchHolds_of_beside {s t : State} (h : Beside s t) (hs : LatchHolds s) (ht : KeysGone t) :
    LatchHolds t := by
  obtain ⟨-, hcontexts, hwindows⟩ := (latchHolds_iff s).1 hs
  refine (latchHolds_iff t).2 ⟨ht, h.contexts.trans hcontexts, fun w he => ?_⟩
  rw [h.tamper w]
  exact hwindows w ((h.enabled w).1 he)

theorem KeysGone.of_same {s t : State} (h : KeysGone s)
    (hpositions : t.store.positions = s.store.positions) (hpools : t.pools = s.pools)
    (hunit : t.derivation = s.derivation) : KeysGone t :=
  ⟨by rw [hpositions]; exact h.positions, by rw [hpools]; exact h.pools,
    by rw [hunit]; exact h.pending, by rw [hunit]; exact h.unwrap⟩

theorem latchHolds_of_alike {s t : State} (h : Alike s t) (hs : LatchHolds s) : LatchHolds t :=
  latchHolds_of_beside h.toBeside hs
    ((keysGone_of_latch hs).of_same h.positions h.pools h.derivation)

/-- The unit ends its operation or begins one that is no unwrap. -/
theorem KeysGone.with_work {s : State} {o : Option Operation} (h : KeysGone s)
    (ho : ∀ p b, o ≠ some (.unwrap p b)) : KeysGone { s with derivation.inFlight := o } :=
  ⟨h.positions, h.pools, h.pending, fun p b hf => absurd hf (ho p b)⟩

theorem latchHolds_with_work {s : State} {o : Option Operation} (h : LatchHolds s)
    (ho : ∀ p b, o ≠ some (.unwrap p b)) : LatchHolds { s with derivation.inFlight := o } :=
  latchHolds_of_beside (beside_keys s rfl) h ((keysGone_of_latch h).with_work ho)

/-! ### Without keys there is nothing to do -/

theorem takeUpNext_of_gone {s : State} (h : KeysGone s) : takeUpNext s = s := by
  obtain heq | ⟨p, b, -, -, hpending, -⟩ | ⟨p, -, -, -, ⟨hu, -⟩, -⟩ := takeUpNext_cases s
  · exact heq
  · exact nomatch h.pending.symm.trans hpending
  · exact absurd hu (not_inUse_of_empty (h.positions p))

theorem spentTest_of_gone {s : State} (p : Fin 16) (h : KeysGone s) : spentTest p s = s := by
  rw [spentTest_eq, if_neg]
  exact fun hused => not_inUse_of_empty (h.positions p) (usedUp_facts hused).1

theorem latchHolds_settleWindow {s : State} (w : Fin 8) (h : LatchHolds s) :
    LatchHolds (settleWindow s w) := by
  obtain ⟨halike, -⟩ | ⟨p, -, hready, -⟩ := settleWindow_cases s w
  · exact latchHolds_of_alike halike h
  · exact absurd (.inl hready) (not_inUse_of_empty (h.positions p))

theorem latchHolds_settledAll {s : State} (h : LatchHolds s) : LatchHolds (settledAll s) := by
  rw [settledAll]
  refine foldl_keeps (P := LatchHolds) (fun _ w => latchHolds_settleWindow w) _ ?_
  rw [spentTestAll]
  refine foldl_keeps (P := LatchHolds) (fun u p hu => ?_) _ h
  rw [spentTest_of_gone p (keysGone_of_latch hu)]
  exact hu

/-- The latch's meaning does not read the part state. -/
theorem latchHolds_activeBegun {s : State} (outcome : StoreOutcome) (h : LatchHolds s) :
    LatchHolds (activeBegun outcome s) := { h with }

theorem activeBegun_store (outcome : StoreOutcome) (s : State) :
    (activeBegun outcome s).store = s.store := rfl

theorem activeBegun_pending (outcome : StoreOutcome) (s : State) :
    (activeBegun outcome s).pending = s.pending := rfl

theorem latchHolds_enterActive {s : State} (outcome : StoreOutcome) (h : LatchHolds s) :
    LatchHolds (enterActive outcome s) := by
  have hbegun := latchHolds_activeBegun outcome (latchHolds_settledAll h)
  rw [enterActive_eq_takeUpNext, takeUpNext_of_gone (keysGone_of_latch hbegun)]
  exact hbegun

/-- What the end of SELF-TEST leaves of the store and of the queue. -/
theorem enterActive_retained (outcome : StoreOutcome) (s : State) :
    (enterActive outcome s).store.marker = s.store.marker ∧
      (enterActive outcome s).store.latch = s.store.latch ∧
      (enterActive outcome s).pending = s.pending := by
  have hsettled := beside_settledAll s
  have htaken := beside_takeUpNext (activeBegun outcome (settledAll s))
  rw [enterActive_eq_takeUpNext, htaken.marker, htaken.latch, htaken.pending, activeBegun_store,
    activeBegun_pending]
  exact ⟨hsettled.marker, hsettled.latch, hsettled.pending⟩

theorem checkFrom_retained (start : Nat) (s : State) :
    (checkFrom start s).store.marker = s.store.marker ∧
      (checkFrom start s).store.latch = s.store.latch ∧
      (checkFrom start s).pending = s.pending := by
  obtain ⟨p, key, heq⟩ | ⟨outcome, heq⟩ := checkFrom_cases start s <;> rw [heq]
  · exact ⟨rfl, rfl, rfl⟩
  · exact enterActive_retained outcome s

theorem latchHolds_checkFrom {s : State} (start : Nat) (h : LatchHolds s) :
    LatchHolds (checkFrom start s) := by
  obtain ⟨p, key, heq⟩ | ⟨outcome, heq⟩ := checkFrom_cases start s <;> rw [heq]
  · exact latchHolds_with_work h nofun
  · exact latchHolds_enterActive outcome h

/-- An EMPTY position is emptied again. -/
theorem latchHolds_emptied {s t : State} {p : Fin 16} (hb : Beside s t) (h : LatchHolds s)
    (hpositions : t.store.positions =
      s.store.positions.set p (takenEmpty s.store.positions[p]))
    (hpools : t.pools = s.pools.set p []) (hunit : t.derivation = s.derivation) :
    LatchHolds t := by
  refine latchHolds_of_beside hb h ⟨fun q => ?_, fun q => ?_, by rw [hunit]; exact h.pending,
    by rw [hunit]; exact h.unwrap⟩
  · rw [hpositions, getElem_set_fin]
    split
    · rfl
    · exact h.positions q
  · rw [hpools, getElem_set_fin]
    split
    · rfl
    · exact h.pools q

theorem latchHolds_eraseKey {s : State} (p : Fin 16) (h : LatchHolds s) :
    LatchHolds (eraseKey p s) := by
  have hnot : s.store.positions[p].state ≠ .active := fun ha =>
    not_inUse_of_empty (h.positions p) (.inr ha)
  rw [eraseKey_eq, if_neg hnot, if_neg hnot]
  have hemptied : LatchHolds
      { s with
        pools := s.pools.set p []
        store.positions := s.store.positions.set p (takenEmpty s.store.positions[p]) } :=
    latchHolds_emptied (beside_keys s rfl) h rfl rfl rfl
  rwa [takeUpNext_of_gone (keysGone_of_latch hemptied)]

theorem latchHolds_refilled {s : State} {p : Fin 16} {n : Nat} {g : BitVec 32}
    {key : Option (Block × KeyId)} (h : LatchHolds s) :
    LatchHolds (takeUpNext (spentTest p (applyRefill p n g key (unitFreed s)))) := by
  have hfreed : LatchHolds (unitFreed s) := latchHolds_with_work h nofun
  have hgone := keysGone_of_latch hfreed
  rw [applyRefill_discarded (.inr (.inr (not_inUse_of_empty (hgone.positions p)))),
    spentTest_of_gone p hgone, takeUpNext_of_gone hgone]
  exact hfreed

theorem latchHolds_unwrapped {s : State} {p : Fin 16} {block : Option KeyBlock} (h : LatchHolds s)
    (hf : s.derivation.inFlight = some (.unwrap p block)) :
    LatchHolds (takeUpNext (judgeLoad p block (unitFreed s))) := by
  obtain rfl := h.unwrap p block hf
  have hfreed : LatchHolds (unitFreed s) := latchHolds_with_work h nofun
  have hanswered : LatchHolds (answerLoad .tampered (unitFreed s)) :=
    latchHolds_of_beside (beside_answerLoad _ _) hfreed
      ((keysGone_of_latch hfreed).of_same rfl rfl rfl)
  show LatchHolds (takeUpNext (answerLoad .tampered (unitFreed s)))
  rwa [takeUpNext_of_gone (keysGone_of_latch hanswered)]

theorem latchHolds_takeTamper {s : State} (h : s.store.latch = false) : LatchHolds (takeTamper s) := by
  refine (latchHolds_iff _).2 ⟨keysGone_takeTamper h, by rw [takeTamper_clear h]; rfl, fun w he => ?_⟩
  have hrecord : (takeTamper s).windows[w].record = s.windows[w].record := by
    rw [takeTamper_clear h]
    exact tampered_record s w
  rw [Enabled, hrecord] at he
  rw [takeTamper_clear h]
  simp only [tampered, ofFn_getElem_fin]
  rw [(windowEnabled_iff s w).2 he]
  simp

theorem latchHolds_loseStore {s : State} (hidle : s.derivation.inFlight = none)
    (hpending : s.derivation.pendingLoad = none) (hcontexts : s.contexts = [])
    (hlatch : (loseStore s).store.latch = true) : LatchHolds (loseStore s) := by
  refine (latchHolds_iff _).2 ⟨keysGone_loseStore hidle hpending, ?_, fun w he => ?_⟩
  · rw [loseStore_eq]
    exact hcontexts
  · rw [← windowEnabled_iff, windowEnabled_loseStore] at he
    rw [loseStore_eq] at hlatch ⊢
    simp only [ofFn_getElem_fin]
    simp only at hlatch
    rw [hlatch, he, Bool.true_and, Bool.or_true]

/-! ### The key table and the latch through a change -/

/-- What the invariant says of an initialised store. -/
def KeysHold (s : State) : Prop :=
  s.store.marker = true → KeyTableInv s ∧ (s.store.latch = true → LatchHolds s)

theorem KeysHold.transport {s t : State} (hs : KeysHold s)
    (hmarker : t.store.marker = s.store.marker) (hlatch : t.store.latch = s.store.latch)
    (hkeys : KeyTableInv s → KeyTableInv t)
    (hmeaning : KeyTableInv s → LatchHolds s → LatchHolds t) : KeysHold t := by
  intro hm
  obtain ⟨hk, hl⟩ := hs (hmarker.symm.trans hm)
  exact ⟨hkeys hk, fun h => hmeaning hk (hl (hlatch.symm.trans h))⟩

theorem KeysHold.of_beside {s t : State} (hs : KeysHold s) (hb : Beside s t)
    (hkeys : KeyTableInv s → KeyTableInv t)
    (hmeaning : KeyTableInv s → LatchHolds s → LatchHolds t) : KeysHold t :=
  hs.transport hb.marker hb.latch hkeys hmeaning

theorem keysHold_of_alike {s t : State} (h : Alike s t) (hs : KeysHold s) : KeysHold t :=
  hs.of_beside h.toBeside (keyTableInv_of_alike h) fun _ => latchHolds_of_alike h

/-- The contexts, the expired list, the time base and the wrap sequences hold no key and, once the
contexts are gone, bring none back. -/
theorem keysHold_with_tables {s : State} {contexts : List Context} {expired : List ExpiredEntry}
    {time : TimeBase} {wrapSeq : Vector (BitVec 32) 8} (hs : KeysHold s)
    (hcontexts : s.contexts = [] → contexts = []) :
    KeysHold
      { s with
        contexts := contexts, expired := expired, time := time, store.wrapSeq := wrapSeq } := by
  refine hs.transport rfl rfl (fun h => keyTableInv_of_same h rfl rfl rfl rfl) fun _ hl => ?_
  obtain ⟨hgone, hnone, hwindows⟩ := (latchHolds_iff s).1 hl
  exact (latchHolds_iff _).2 ⟨hgone.of_same rfl rfl rfl, hcontexts hnone, hwindows⟩

theorem keysHold_takeTamper {s : State} (hs : KeysHold s) : KeysHold (takeTamper s) := by
  cases hl : s.store.latch with
  | true => exact keysHold_of_alike (alike_takeTamper_latched hl) hs
  | false =>
    intro hm
    rw [takeTamper_clear hl] at hm
    exact ⟨keyTableInv_takeTamper (hs hm).1, fun _ => latchHolds_takeTamper hl⟩

theorem keysHold_beginLoading {s : State} (hs : KeysHold s) : KeysHold (beginLoading s) :=
  hs.transport rfl rfl (fun h => keyTableInv_of_not_active (tableInOrder_of_keys (s := s) h) nofun)
    fun _ h => { h with }

/-- R158, R160: a part reset leaves no enabled window, pool, context or work; its fate for the store keeps
the contents or leaves no marker. -/
theorem keysHold_reset {s : State} {fate : StoreFate} (hkeep : KeepsStore (.partReset fate))
    (hs : KeysHold s) :
    KeysHold
      { State.reset with
        store := storeAfter s fate, transportKey := s.transportKey, inputs := s.inputs
        pending := s.pending } := by
  cases fate with
  | holds contents =>
    have hmarker : contents.marker = false := hkeep
    exact fun hm => nomatch hmarker.symm.trans hm
  | kept =>
    refine hs.transport rfl rfl
      (fun h => keyTableInv_of_not_active (tableInOrder_of_keys h).reset nofun) fun _ h => ?_
    refine (latchHolds_iff _).2
      ⟨⟨h.positions, fun p => replicate_getElem_fin [] p, rfl, nofun⟩, rfl, ?_⟩
    rintro w ⟨r, hr, -⟩
    exact nomatch (reset_record w).symm.trans hr

theorem latchHolds_leaveLoading {s : State} (outcome : ImageOutcome) (h : LatchHolds s)
    (hlatch : s.store.latch = true) : LatchHolds (leaveLoading outcome s) := by
  obtain ⟨hgone, hcontexts, -⟩ := (latchHolds_iff s).1 h
  rw [leaveLoading]
  split
  · refine (latchHolds_iff _).2
      ⟨⟨hgone.positions, hgone.pools, hgone.pending, nofun⟩, hcontexts, fun w he => ?_⟩
    obtain ⟨r, hr, henabled⟩ := he
    simp only [leaveValid, loadedWindows, ofFn_getElem_fin] at hr ⊢
    cases hr
    rw [hlatch, henabled]
    rfl
  · exact { h with }

theorem keysHold_leaveLoading {s : State} (outcome : ImageOutcome) (hs : KeysHold s) :
    KeysHold (leaveLoading outcome s) := by
  obtain ⟨-, hstore, -⟩ := leaveLoading_rest outcome s
  intro hm
  rw [hstore] at hm
  obtain ⟨hk, hl⟩ := hs hm
  refine ⟨keyTableInv_of_not_active (tableInOrder_leaveLoading outcome (tableInOrder_of_keys hk))
    (leaveLoading_not_active outcome s), fun hlatch => ?_⟩
  rw [hstore] at hlatch
  exact latchHolds_leaveLoading outcome (hl hlatch) hlatch

/-- R160: a lost store is written with the marker, without a key and with the latch decided afresh. -/
theorem keysHold_storeLost {s : State} (hidle : s.derivation.inFlight = none)
    (hpending : s.derivation.pendingLoad = none) (hcontexts : s.contexts = []) :
    KeysHold (enterActive .lost (loseStore s)) := by
  refine fun _ => ⟨keyTableInv_enterActive _ (tableInOrder_loseStore hidle hpending),
    fun hlatch => ?_⟩
  rw [(enterActive_retained _ _).2.1] at hlatch
  exact latchHolds_enterActive _ (latchHolds_loseStore hidle hpending hcontexts hlatch)

theorem keysHold_unitFreed {s : State} (hs : KeysHold s) : KeysHold (unitFreed s) :=
  hs.of_beside (beside_unitFreed s) keyTableInv_unitFreed fun _ h => latchHolds_with_work h nofun

theorem keysHold_enterFault {s : State} (hs : KeysHold s) : KeysHold (enterFault s) :=
  hs.transport rfl rfl (fun h => keyTableInv_of_not_active (tableInOrder_of_keys (s := s) h) nofun)
    fun _ h => { h with }

theorem keysHold_checkFrom {s : State} (start : Nat) (h : s.part.state = .selfTest)
    (hs : KeysHold s) : KeysHold (checkFrom start s) := by
  obtain ⟨hmarker, hlatch, -⟩ := checkFrom_retained start s
  exact hs.transport hmarker hlatch (fun hk => keyTableInv_checkFrom start h (tableInOrder_of_keys hk))
    fun _ => latchHolds_checkFrom start

theorem keysHold_erasePosition {s : State} (p : Fin 16) (h : s.part.state = .selfTest)
    (hs : KeysHold s) : KeysHold (erasePosition p s) := by
  have hb := beside_erasePosition p s
  refine hs.of_beside hb (fun hk => keyTableInv_of_not_active
    (tableInOrder_erasePosition p (tableInOrder_of_keys hk)) ?_) fun _ hl => ?_
  · simp [hb.state, h]
  · exact latchHolds_emptied hb hl rfl rfl rfl

theorem change_keys {c : Instr} {s t : State} (h : Change c s t) (hkeep : KeepsStore c)
    (hp : PhaseInv s) (hs : KeysHold s) : KeysHold t := by
  have hfreed : KeysHold (unitFreed s) := keysHold_unitFreed hs
  cases h with
  | nothing => exact hs
  | rewritten => exact keysHold_with_tables hs fun hc => by rw [hc]; rfl
  | closed => exact keysHold_with_tables hs fun hc => by rw [hc]; rfl
  | reported => exact keysHold_with_tables hs id
  | ended _ _ time =>
    exact keysHold_with_tables (s := s) (time := time) hs fun hc => by rw [hc]; rfl
  | @opened _ _ pl p e tail x low h =>
    have hb := (beside_spentTest p (headDrawn s pl p tail x low)).trans (beside_takeUpNext _)
    refine hs.transport hb.marker hb.latch (fun hk => ?_) fun _ hl => ?_
    · exact keyTableInv_takeUpNext
        (keyTableInv_spentTest p (keyTableInv_headDrawn pl x low hk h.head))
    · exact absurd (.inr h.inUse) (not_inUse_of_empty (hl.positions p))
  | reset fate => exact keysHold_reset hkeep hs
  | released => exact keysHold_beginLoading hs
  | releasedInTamper => exact keysHold_beginLoading (keysHold_takeTamper hs)
  | left outcome => exact keysHold_leaveLoading outcome hs
  | failedTest => exact keysHold_enterFault hfreed
  | storeLost h =>
    obtain ⟨hidle, hpending, -⟩ := unitIdle_unitFreed hp h
    exact keysHold_storeLost hidle hpending (hp.tables_active (by simp [h])).1
  | searched start h => exact keysHold_checkFrom start h hfreed
  | searchedPast p h => exact keysHold_checkFrom _ h (keysHold_erasePosition p h hfreed)
  | @refilled _ p n g key h =>
    refine hs.of_beside (((beside_unitFreed s).trans (beside_applyRefill p n g key _)).trans
      ((beside_spentTest p _).trans (beside_takeUpNext _))) (fun hk => ?_) fun _ => latchHolds_refilled
    exact keyTableInv_takeUpNext (keyTableInv_spentTest p (keyTableInv_applyRefill hk h))
  | @unwrapped _ p block h =>
    refine hs.of_beside (((beside_unitFreed s).trans (beside_judgeLoad p block _)).trans
      (beside_takeUpNext _)) (fun hk => ?_) fun _ hl => latchHolds_unwrapped hl h
    exact keyTableInv_takeUpNext (keyTableInv_judgeLoad hk hp h)
  | tampered => exact keysHold_takeTamper hs
  | @accepted _ _ p block _ _ hlatch hload =>
    have hb := beside_acceptLoad p block s
    intro hm
    refine ⟨keyTableInv_acceptLoad (hs (hb.marker.symm.trans hm)).1 hload, fun hl => ?_⟩
    exact nomatch (hlatch.symm.trans hb.latch.symm).trans hl
  | erased p =>
    exact hs.of_beside (beside_eraseKey p s) (keyTableInv_eraseKey p) fun _ => latchHolds_eraseKey p
  | @switched _ _ p _ hactive =>
    refine hs.of_beside (beside_switchKey p s) (fun hk => keyTableInv_switchKey hk hactive)
      fun _ hl => ?_
    exact absurd (.inr hactive) (not_inUse_of_empty (hl.positions p))
  | cleared =>
    exact fun hm => ⟨keyTableInv_of_same (hs hm).1 rfl rfl rfl rfl, nofun⟩

/-! ### Every step -/

theorem takeTamper_pending (s : State) : (takeTamper s).pending = s.pending := by
  cases h : s.store.latch with
  | true => exact (alike_takeTamper_latched h).pending
  | false => rw [takeTamper_clear h]; rfl

theorem leaveLoading_pending (outcome : ImageOutcome) (s : State) :
    (leaveLoading outcome s).pending = s.pending := by
  rw [leaveLoading]
  split <;> rfl

theorem loseStore_pending (s : State) : (loseStore s).pending = s.pending := by rw [loseStore_eq]

/-- No command and no period of the clock puts a command into the queue. -/
theorem change_pending {c : Instr} {s t : State} (h : Change c s t) : t.pending = s.pending := by
  cases h with
  | opened => exact ((beside_spentTest _ _).trans (beside_takeUpNext _)).pending
  | releasedInTamper => exact takeTamper_pending s
  | left => exact leaveLoading_pending _ s
  | storeLost => exact (enterActive_retained _ _).2.2.trans (loseStore_pending _)
  | searched => exact (checkFrom_retained _ _).2.2
  | searchedPast => exact (checkFrom_retained _ _).2.2
  | refilled =>
    exact (((beside_unitFreed s).trans (beside_applyRefill _ _ _ _ _)).trans
      ((beside_spentTest _ _).trans (beside_takeUpNext _))).pending
  | unwrapped =>
    exact (((beside_unitFreed s).trans (beside_judgeLoad _ _ _)).trans (beside_takeUpNext _)).pending
  | tampered => exact takeTamper_pending s
  | accepted => exact (beside_acceptLoad _ _ s).pending
  | erased p => exact (beside_eraseKey p s).pending
  | switched => exact (beside_switchKey _ s).pending
  | _ => rfl

theorem effect_pending {c : Instr} {s t : State} (h : Effect c s t) : t.pending = s.pending := by
  obtain ⟨u, v, ⟨hsu, -⟩, hchange, hvt⟩ := h
  exact hvt.pending.trans ((change_pending hchange).trans hsu.pending)

theorem keysHold_of_effect {c : Instr} {s t : State} (h : Effect c s t) (hkeep : KeepsStore c)
    (hp : PhaseInv s) (hs : KeysHold s) : KeysHold t := by
  obtain ⟨u, v, ⟨hsu, -⟩, hchange, hvt⟩ := h
  exact keysHold_of_alike hvt
    (change_keys hchange hkeep (phaseInv_of_alike hsu hp) (keysHold_of_alike hsu hs))

theorem clockPeriod_keysHold {s : State} (hs : KeysHold s) : KeysHold (clockPeriod s) := by
  obtain heq | ⟨-, ⟨-, heq⟩ | heq⟩ := clockPeriod_cases s <;> rw [heq]
  · exact hs
  · exact keysHold_with_tables hs id
  · rw [takeTick_eq]
    exact keysHold_with_tables (s := s) hs fun hc => by
      rw [show (tickRaised s).contexts = [] from hc]
      rfl

theorem clockPeriod_pending (s : State) : (clockPeriod s).pending = s.pending := by
  obtain heq | ⟨-, ⟨-, heq⟩ | heq⟩ := clockPeriod_cases s <;> rw [heq]
  rw [takeTick_eq]
  rfl

/-- A waiting command is read by neither. -/
theorem keysHold_pending {s : State} (hs : KeysHold s) (rest : List Instr) :
    KeysHold { s with pending := rest } :=
  hs.transport rfl rfl (fun h => keyTableInv_of_same h rfl rfl rfl rfl) fun _ h => { h with }

theorem storeInv_iff (s : State) :
    StoreInv s ↔ PhaseInv s ∧ KeysHold s ∧ ∀ c ∈ s.pending, KeepsStore c :=
  ⟨fun ⟨hp, hk, hl, hw⟩ => ⟨hp, fun hm => ⟨hk hm, hl hm⟩, hw⟩,
    fun ⟨hp, hk, hw⟩ => ⟨hp, fun hm => (hk hm).1, fun hm => (hk hm).2, hw⟩⟩

/-- Settles O57: each change keeps the key table and the latch's meaning. -/
theorem stepsKeepTheKeyTable : Obligations.StepsKeepTheKeyTable := by
  intro s t hs h
  obtain ⟨hp, hk, hw⟩ := (storeInv_iff s).1 hs
  refine (storeInv_iff t).2 ⟨phaseInv_step hp h, ?_⟩
  obtain rfl | ⟨c, rest, hpending, heffect⟩ := step_cases h
  · rw [clockPeriod_pending]
    exact ⟨clockPeriod_keysHold hk, hw⟩
  · rw [hpending] at hw
    refine ⟨keysHold_of_effect heffect (hw c List.mem_cons_self) (phaseInv_pending hp rest) ?_, ?_⟩
    · exact keysHold_pending hk rest
    · rw [effect_pending heffect]
      exact fun x hx => hw x (List.mem_cons_of_mem c hx)

end Sys2Proof.Machine
end
